-- ==== Sys2Proof/Word.lean ====
section
/-! DEFINITION. The word types of the core (00_scope.md R9, R11): bytes, 16-bit addresses and words, 2-bit shades, and
the type of a memory held as sparse data. -/

namespace Sys2Proof

/-- An 8-bit data register, an I/O register or a byte of memory (00_scope.md R9). -/
abbrev Byte := BitVec 8

/-- A 16-bit address, register pair, SP or PC (00_scope.md R9). -/
abbrev Word := BitVec 16

/-- A shade index 0 (lightest) to 3 (darkest) (61_video.md R530). -/
abbrev Shade := BitVec 2

/-- A memory of bytes as plain data: (index, byte) pairs, only the entries that differ from what an unlisted index reads as. -/
abbrev Memory := List Host.Cell

/-- A picture of 144 rows of 160 shades, sparse: the key of row `y`, column `x` is `160 * y + x` (61_video.md R531, R533). -/
abbrev Frame := List (Nat × Shade)

end Sys2Proof
end

