-- ==== Sys2Proof/Fields.lean ====
section
/-! DEFINITION. The operand fields of the encodings as names (30_encoding.md R182 to R188). -/

namespace Sys2Proof

/-- The seven 8-bit registers an `r8` field can name (30_encoding.md R182; value 6 is `(HL)`, see `R8`). -/
inductive Reg8 where
  | b | c | d | e | h | l | a
deriving DecidableEq, Repr

/-- An `r8` operand: a register, or the memory byte at address HL (30_encoding.md R182). -/
inductive R8 where
  | reg (r : Reg8)
  | atHL
deriving DecidableEq, Repr

/-- The pair field `rr` of LD rr,nn, ADD HL,rr, INC rr and DEC rr (30_encoding.md R183). -/
inductive Pair where
  | bc | de | hl | sp
deriving DecidableEq, Repr

/-- The pair field `rr_stk` of PUSH and POP (30_encoding.md R184). -/
inductive StackPair where
  | bc | de | hl | af
deriving DecidableEq, Repr

/-- The address field `rr_mem` of the A loads and stores through a pair (30_encoding.md R185). -/
inductive MemPair where
  | bc | de | hlInc | hlDec
deriving DecidableEq, Repr

/-- The condition field `cc` (30_encoding.md R186). -/
inductive Cond where
  | nz | z | nc | c
deriving DecidableEq, Repr

/-- The operation field `alu` (30_encoding.md R187). -/
inductive AluOp where
  | add | adc | sub | sbc | and | xor | or | cp
deriving DecidableEq, Repr

/-- The rotate and shift field `y` of an extended opcode with g = 0 (30_encoding.md R188). -/
inductive RotOp where
  | rlc | rrc | rl | rr | sla | sra | swap | srl
deriving DecidableEq, Repr

end Sys2Proof
end

