-- ==== Sys2Proof/Config.lean ====
section
/-! DEFINITION. The implementation parameters of 00_scope.md R10. They are plain data, held in `State.params` and changed by
no step, so that a statement over all states covers every choice the spec leaves OPEN. The one free value the spec names,
`romHash` (93_implementation_defined.md I27), is an opaque constant. -/

namespace Sys2Proof

/-- `STOP_MODE` (00_scope.md R10, 92_eei_decisions.md D11). -/
inductive StopMode where
  | halt
  | nop
deriving DecidableEq, Repr

/-- `MBC1_MODEL` (00_scope.md R10, 92_eei_decisions.md D31). -/
inductive Mbc1Model where
  | hardware
  | legacy
deriving DecidableEq, Repr

/-- A byte list held sparsely: its length and the bytes that are not 0x00 (`Image.ofList` makes one from a list). -/
structure Image where
  size  : Nat
  cells : Memory
deriving DecidableEq, Repr

/-- The parameters of 00_scope.md R10, all but `WALLCLOCK`, which changes between steps and is `State.wallClock`. -/
structure Params where
  /-- `ROM`: the cartridge image; the empty image stands for no ROM given. -/
  rom               : Image
  /-- `BOOT_ROM`: the optional 256-byte image (D28, D29). -/
  bootRom           : Option (List Byte)
  /-- `RAM_INIT`: initial bytes by bus address; an address it does not list is 0x00 (D16). -/
  ramInit           : Memory
  /-- `CART_RAM_INIT`: initial cartridge RAM by index; an index it does not list is 0x00 (D41). -/
  cartRamInit       : Memory
  /-- `HALT_BUG` (D10). -/
  haltBug           : Bool
  /-- `STOP_MODE` (D11). -/
  stopMode          : StopMode
  /-- `WINDOW_PENALTY`, in cycles, 0 to 196 (D44). -/
  windowPenalty     : Nat
  /-- `ECHO_MIRROR` (D17). -/
  echoMirror        : Bool
  /-- `MBC1_MODEL` (D31). -/
  mbc1Model         : Mbc1Model
  /-- `JOYPAD_IRQ_SELECTED` (D25). -/
  joypadIrqSelected : Bool
deriving DecidableEq, Repr

/-- The defaults of 00_scope.md R10, with no ROM given. -/
def Params.default : Params :=
  { rom := { size := 0, cells := [] }, bootRom := none, ramInit := [], cartRamInit := [], haltBug := false,
    stopMode := .halt, windowPenalty := 6, echoMirror := false, mbc1Model := .hardware, joypadIrqSelected := false }

/-- The ranges R10 and R74 give the parameters: a boot image of 256 bytes, a window penalty of at most 196. -/
abbrev Params.inRange (p : Params) : Prop :=
  p.windowPenalty ≤ 196 ∧ p.bootRom.all (fun b => b.length == 256) = true

/-- `romHash` of 21_cartridge.md R121: the source names the accessor and gives no algorithm; any value (I27). It has no body.
DESIGN CHOICE (log entry 15), safe. -/
opaque Config.romHash : Image → Nat

end Sys2Proof
end

