-- ==== Sys2Proof/Machine/Cells.lean ====
section
/-! DEFINITION. Sparse memories as plain data. `unlisted i` is what an index with no entry reads as; the canonical form lists
indexes strictly rising and no entry equal to `unlisted` at its index, so equal memories are equal lists. -/

namespace Sys2Proof

/-- Read index `i`. -/
def readCell {w : Nat} (unlisted : Nat → BitVec w) : List (Nat × BitVec w) → Nat → BitVec w
  | [], i => unlisted i
  | (k, v) :: m, i => if i = k then v else readCell unlisted m i

/-- Write `v` at index `i`, keeping the canonical form: writing what an unlisted index reads as removes the entry. -/
def writeCell {w : Nat} (unlisted : Nat → BitVec w) : List (Nat × BitVec w) → Nat → BitVec w → List (Nat × BitVec w)
  | [], i, v => if v = unlisted i then [] else [(i, v)]
  | (k, x) :: m, i, v =>
    if i < k then (if v = unlisted i then (k, x) :: m else (i, v) :: (k, x) :: m)
    else if i = k then (if v = unlisted i then m else (i, v) :: m)
    else (k, x) :: writeCell unlisted m i v

/-- The canonical form. -/
abbrev CellsWf {w : Nat} (unlisted : Nat → BitVec w) (m : List (Nat × BitVec w)) : Prop :=
  m.Pairwise (fun c d => c.1 < d.1) ∧ ∀ c ∈ m, c.2 ≠ unlisted c.1

/-- A memory's canonical form, where an unlisted byte reads 0x00: the default of `RAM_INIT` and `CART_RAM_INIT` (R10, R572).
DESIGN CHOICE of the spec (log entry 12), unsafe for a claim about the RAM of `State.reset` alone. -/
abbrev Memory.wf (m : Memory) : Prop := CellsWf (fun _ => (0 : Byte)) m

/-- One byte of a memory. -/
def Memory.read (m : Memory) (i : Nat) : Byte := readCell (fun _ => 0) m i

/-- A memory with one byte written. -/
def Memory.write (m : Memory) (i : Nat) (v : Byte) : Memory := writeCell (fun _ => 0) m i v

/-- Write a list of bytes from index `i` on. -/
def Memory.writeAll : Memory → Nat → List Byte → Memory
  | m, _, [] => m
  | m, i, v :: vs => Memory.writeAll (Memory.write m i v) (i + 1) vs

/-- Any list of cells in canonical form: every index reads as in the list. -/
def Memory.normal (cells : List Host.Cell) : Memory :=
  cells.foldr (fun c m => Memory.write m c.1 c.2) []

/-- The cells of `size` indexes from `base`, renumbered from `dst`. -/
def Memory.slice (m : Memory) (base size dst : Nat) : Memory :=
  Memory.normal ((m.filter (fun c => decide (base ≤ c.1 ∧ c.1 < base + size))).map (fun c => (c.1 - base + dst, c.2)))

/-- A picture's canonical form: an unlisted pixel is shade 0 (61_video.md R531: both buffers start all 0). -/
abbrev Frame.wf (f : Frame) : Prop := CellsWf (fun _ => (0 : Shade)) f

/-- The shade at row `y`, column `x`. -/
def Frame.read (f : Frame) (y x : Nat) : Shade := readCell (fun _ => 0) f (160 * y + x)

/-- A picture with the pixel at row `y`, column `x` written. -/
def Frame.write (f : Frame) (y x : Nat) (v : Shade) : Frame := writeCell (fun _ => 0) f (160 * y + x) v

/-- Byte `i` of an image; the sentinel 0xFF past its end (21_cartridge.md R125). -/
def Image.byte (m : Image) (i : Nat) : Byte := if i < m.size then Memory.read m.cells i else 0xFF

/-- The image of a byte list. -/
def Image.ofList (bytes : List Byte) : Image := { size := bytes.length, cells := Memory.writeAll [] 0 bytes }

/-- Read a NoMBC array: an index never written reads the ROM image's byte, 0xFF past its end (21_cartridge.md R128). -/
def arrRead (rom : Image) (arr : Memory) (i : Nat) : Byte := readCell (Image.byte rom) arr i

/-- Write a NoMBC array (21_cartridge.md R128). -/
def arrWrite (rom : Image) (arr : Memory) (i : Nat) (v : Byte) : Memory := writeCell (Image.byte rom) arr i v

end Sys2Proof
end

