-- ==== Sys2Proof/Machine/Types.lean ====
section
/-! DEFINITION. The records that `State` is made of, one per owner of 10_state.md R45. -/

namespace Sys2Proof.Machine

/-- The CPU's data registers, SP and PC (10_state.md R30 to R34). -/
structure Regs where
  a  : Byte
  /-- Z N H C in bits 7 to 4; bits 3 to 0 are 0 (R31). -/
  f  : Byte
  b  : Byte
  c  : Byte
  d  : Byte
  e  : Byte
  h  : Byte
  l  : Byte
  sp : Word
  pc : Word
deriving DecidableEq, Repr

/-- The timer and divider (60_exceptions.md R450 to R456). -/
structure Timer where
  div     : Byte
  divAcc  : Nat
  tima    : Byte
  tma     : Byte
  tac     : BitVec 3
  timaAcc : Nat
deriving DecidableEq, Repr

/-- The eight buttons (60_exceptions.md R462). -/
inductive Button where
  | up | down | left | right | a | b | start | select
deriving DecidableEq, Repr

/-- The host's button state of one player slot: which buttons are pressed (60_exceptions.md R460, R462). -/
structure Buttons where
  up     : Bool
  down   : Bool
  left   : Bool
  right  : Bool
  a      : Bool
  b      : Bool
  start  : Bool
  select : Bool
deriving DecidableEq, Repr

/-- JOYP's select bits and the host's button state (60_exceptions.md R460 to R462). -/
structure Joypad where
  sel    : BitVec 2
  /-- The slot wired to JOYP. -/
  slot0  : Buttons
  /-- The other slots, stored and ignored. Empty at reset: DESIGN CHOICE (log entry 4), unsafe. -/
  others : List (Nat × Buttons)
deriving DecidableEq, Repr

/-- The audio register file: the NR52 power bit, and the bytes of 0xFF10 to 0xFF25 and 0xFF30 to 0xFF3F by bus address
(60_exceptions.md R475, R476). -/
structure Audio where
  power : Bool
  regs  : Memory
deriving DecidableEq, Repr

/-- What the memory bus owns (10_state.md R45). -/
structure Bus where
  /-- The flat array, by bus address (20_memory.md R76). -/
  flat       : Memory
  /-- The overlay flag (20_memory.md R74, R75). -/
  bootActive : Bool
  /-- IF (60_exceptions.md R433). -/
  ifReg      : BitVec 5
  /-- IE (60_exceptions.md R434). -/
  ieReg      : Byte
  timer      : Timer
  joypad     : Joypad
  /-- The DMA register (60_exceptions.md R470). -/
  dmaReg     : Byte
  sb         : Byte
  sc         : Byte
  audio      : Audio
deriving DecidableEq, Repr

/-- The video mode; STAT bits 1 to 0 read 0, 1, 2, 3 (61_video.md R500, R504). -/
inductive Mode where
  | hblank | vblank | oamScan | draw
deriving DecidableEq, Repr

/-- A selected sprite: its OAM entry number, its screen position, its tile number and attribute byte (61_video.md R514). -/
structure Sprite where
  index : Nat
  yPos  : Int
  xPos  : Int
  tile  : Byte
  attr  : Byte
deriving DecidableEq, Repr

/-- What the video engine owns (61_video.md R500). Counters are natural numbers whose ranges `Inv` states: DESIGN CHOICE (log entry
19), safe. -/
structure Video where
  /-- VRAM by index 0 to 0x1FFF (R501). -/
  vram      : Memory
  /-- OAM by index 0 to 159 (R502). -/
  oam       : Memory
  lcdc      : Byte
  /-- STAT bits 6 to 3 (R504). -/
  statSel   : BitVec 4
  scy       : Byte
  scx       : Byte
  /-- 0 to 153 (R506). -/
  ly        : Nat
  lyc       : Byte
  bgp       : Byte
  obp0      : Byte
  obp1      : Byte
  wy        : Byte
  wx        : Byte
  mode      : Mode
  /-- 0 to 455 (R510). -/
  lineCycle : Nat
  lcdActive : Bool
  winYLatch : Bool
  /-- 0 to 143 (R532). -/
  winLine   : Nat
  winDrawn  : Bool
  drawEnd   : Nat
  /-- At most 10 (R514). -/
  spriteBuf : List Sprite
  coinc     : Bool
  lines     : Frame
  viewport  : Frame
deriving DecidableEq, Repr

/-- The fields of the real-time clock; the unused bits of S, M, H and DH have no storage and read 0 (21_cartridge.md R154).
DEDUCED (log entry 16), safe. -/
structure Rtc where
  s       : BitVec 6
  m       : BitVec 6
  h       : BitVec 5
  dl      : Byte
  /-- DH bit 0: day counter bit 8. -/
  dayHigh : Bool
  /-- DH bit 6. -/
  halt    : Bool
  /-- DH bit 7: day carry. -/
  carry   : Bool
deriving DecidableEq, Repr

/-- MBC1's registers (21_cartridge.md R130). -/
structure Mbc1 where
  ramEnabled : Bool
  lo5        : BitVec 5
  hi2        : BitVec 2
  mode       : Bool
deriving DecidableEq, Repr

/-- MBC2's registers (21_cartridge.md R140). -/
structure Mbc2 where
  ramEnabled : Bool
  bank4      : BitVec 4
deriving DecidableEq, Repr

/-- MBC3's registers and its clock (21_cartridge.md R150). -/
structure Mbc3 where
  ramEnabled : Bool
  bank7      : BitVec 7
  sel        : Byte
  latchArmed : Bool
  live       : Rtc
  latched    : Rtc
  lastTime   : Nat
deriving DecidableEq, Repr

/-- MBC5's registers (21_cartridge.md R165). -/
structure Mbc5 where
  ramEnabled : Bool
  bank9      : BitVec 9
  rbank      : BitVec 4
  rumble     : Bool
deriving DecidableEq, Repr

/-- The closed variant set, each with its own registers (21_cartridge.md R120). -/
inductive Mbc where
  /-- `arr` holds the entries of the 0xC000-byte array that differ from its load contents (R128). -/
  | noMbc (arr : Memory)
  | mbc1 (r : Mbc1)
  | mbc2 (r : Mbc2)
  | mbc3 (r : Mbc3)
  | mbc5 (r : Mbc5)
deriving DecidableEq, Repr

/-- A loaded cartridge: its ROM image, its RAM bytes and its variant's registers (21_cartridge.md R120). -/
structure Cartridge where
  rom : Image
  ram : Memory
  mbc : Mbc
deriving DecidableEq, Repr

/-- Why a ROM load fails (21_cartridge.md R121, R122; 60_exceptions.md R440). -/
inductive LoadError where
  /-- `CartridgeTypeUnrecognized`, with the byte at 0x147; `none` where the image is too short to have a header:
  DESIGN CHOICE (log entry 14), safe. -/
  | cartridgeTypeUnrecognized (typeByte : Option Byte)
deriving DecidableEq, Repr

end Sys2Proof.Machine
end

