-- ==== Sys2Proof/Machine/Cartridge.lean ====
section
/-! DEFINITION. The cartridge controller family (21_cartridge.md): the header, the load, the read and write of each variant, the
real-time clock, and battery RAM. -/

namespace Sys2Proof.Machine

/-! ### The header (R121 to R124) -/

/-- The variant of a cartridge-type byte, with its registers as they stand at load; `none` is unrecognized (R122, R575). -/
def mbcOfType (typeByte : Byte) (now : Nat) : Option Mbc :=
  let clock : Rtc := { s := 0, m := 0, h := 0, dl := 0, dayHigh := false, halt := false, carry := false }
  let mbc1 := Mbc.mbc1 { ramEnabled := false, lo5 := 1, hi2 := 0, mode := false }
  let mbc2 := Mbc.mbc2 { ramEnabled := false, bank4 := 1 }
  let mbc3 := Mbc.mbc3 { ramEnabled := false, bank7 := 1, sel := 0, latchArmed := false, live := clock, latched := clock,
                         lastTime := now }
  let mbc5 := Mbc.mbc5 { ramEnabled := false, bank9 := 1, rbank := 0, rumble := false }
  if typeByte ∈ ([0x00, 0x08, 0x09] : List Byte) then some (.noMbc [])
  else if typeByte ∈ ([0x01, 0x02, 0x03] : List Byte) then some mbc1
  else if typeByte ∈ ([0x05, 0x06] : List Byte) then some mbc2
  else if typeByte ∈ ([0x0F, 0x10, 0x11, 0x12, 0x13] : List Byte) then some mbc3
  else if typeByte ∈ ([0x19, 0x1A, 0x1B, 0x1C, 0x1D, 0x1E] : List Byte) then some mbc5
  else none

/-- The type bytes of MBC5 with rumble (R122, R166). -/
def isRumbleType (rom : Image) : Bool := decide (rom.byte 0x147 ∈ ([0x1C, 0x1D, 0x1E] : List Byte))

/-- The ROM bank count: the size code at 0x148, or the image's length for an unknown code (R123). -/
def romBanks (rom : Image) : Nat :=
  let c := (rom.byte 0x148).toNat
  if c ≤ 8 then 2 ^ (c + 1)
  else if c = 0x52 then 72
  else if c = 0x53 then 80
  else if c = 0x54 then 96
  else max 2 ((rom.size + 0x3FFF) / 0x4000)

/-- The RAM size of the code at 0x149 (R124). -/
def ramSizeOfCode (code : Byte) : Nat :=
  if code = 0x01 then 0x800
  else if code = 0x02 then 0x2000
  else if code = 0x03 then 0x8000
  else if code = 0x04 then 0x20000
  else if code = 0x05 then 0x10000
  else 0

/-- The size of the variant's RAM in bytes: 512 for MBC2, 0 for NoMBC, the header's for the others (R124). -/
def Cartridge.ramSize (c : Cartridge) : Nat :=
  match c.mbc with
  | .noMbc _ => 0
  | .mbc2 _ => 512
  | .mbc1 _ | .mbc3 _ | .mbc5 _ => ramSizeOfCode (c.rom.byte 0x149)

/-- The RAM bank count, ceil(size / 0x2000) (R124). -/
def Cartridge.ramBanks (c : Cartridge) : Nat := (c.ramSize + 0x1FFF) / 0x2000

/-- Load a ROM (R120, R121, R122, R575): the variant of its type byte at power-on, with `CART_RAM_INIT` in its RAM. -/
def loadCartridge (rom : Image) (cartRamInit : Memory) (now : Nat) : Except LoadError Cartridge :=
  if rom.size < 0x150 then .error (.cartridgeTypeUnrecognized none)
  else
    match mbcOfType (rom.byte 0x147) now with
    | none => .error (.cartridgeTypeUnrecognized (some (rom.byte 0x147)))
    | some mbc =>
      let c : Cartridge := { rom := rom, ram := [], mbc := mbc }
      .ok { c with ram := Memory.slice cartRamInit 0 c.ramSize 0 }

/-- The title: bytes 0x134 to 0x143 cut at the first 0x00, those below 0x20 or above 0x7E removed, spaces trimmed at both ends
(R121, 92_eei_decisions.md D42). -/
def cartridgeTitle (rom : Image) : List Byte :=
  let raw := (List.range 16).map (fun i => rom.byte (0x134 + i))
  let shown := (raw.takeWhile (fun v => decide (v ≠ 0))).filter (fun v => decide (0x20 ≤ v ∧ v ≤ 0x7E))
  let isSpace := fun v : Byte => decide (v = 0x20)
  ((shown.dropWhile isSpace).reverse.dropWhile isSpace).reverse

/-! ### Shared helpers (R125 to R127) -/

/-- `romByte(bank, off)` (R125). -/
def romByte (rom : Image) (bank off : Nat) : Byte := rom.byte ((bank % romBanks rom) * 0x4000 + off)

/-- The latch value a write to the RAM-enable window gives (R126). -/
def enablesRam (v : Byte) : Bool := v &&& 0x0F == 0x0A

/-- The RAM index of a bank and an offset (R127). -/
def Cartridge.ramIndex (c : Cartridge) (bank off : Nat) : Nat := (bank % c.ramBanks) * 0x2000 + off

/-- `ramRead(bank, off)`, with the latch's value (R127). -/
def Cartridge.ramRead (c : Cartridge) (enabled : Bool) (bank off : Nat) : Byte :=
  if !enabled || c.ramSize == 0 then 0xFF
  else if c.ramIndex bank off < c.ramSize then Memory.read c.ram (c.ramIndex bank off) else 0xFF

/-- `ramWrite(bank, off, v)`, with the latch's value (R127). -/
def Cartridge.ramWrite (c : Cartridge) (enabled : Bool) (bank off : Nat) (v : Byte) : Cartridge :=
  if !enabled || c.ramSize == 0 then c
  else if c.ramIndex bank off < c.ramSize then { c with ram := Memory.write c.ram (c.ramIndex bank off) v } else c

/-! ### MBC3's real-time clock (R153 to R156) -/

/-- The byte of DH: bit 0 day bit 8, bit 6 halt, bit 7 carry (R154). -/
def rtcDayHighByte (r : Rtc) : Byte :=
  (if r.dayHigh then 0x01 else 0) ||| (if r.halt then 0x40 else 0) ||| (if r.carry then 0x80 else 0)

/-- The 9-bit day counter (R154). -/
def rtcDay (r : Rtc) : Nat := (if r.dayHigh then 256 else 0) + r.dl.toNat

/-- One second (R155). -/
def rtcTick (r : Rtc) : Rtc :=
  if r.halt then r
  else if r.s ≠ 59 then { r with s := r.s + 1 }
  else if r.m ≠ 59 then { r with s := 0, m := r.m + 1 }
  else if r.h ≠ 23 then { r with s := 0, m := 0, h := r.h + 1 }
  else if rtcDay r = 511 then { r with s := 0, m := 0, h := 0, dl := 0, dayHigh := false, carry := true }
  else
    { r with s := 0, m := 0, h := 0, dl := BitVec.ofNat 8 (rtcDay r + 1), dayHigh := decide (256 ≤ rtcDay r + 1) }

/-- `n` seconds. -/
def rtcTicks : Nat → Rtc → Rtc
  | 0, r => r
  | n + 1, r => rtcTicks n (rtcTick r)

/-- `advance()`: count the seconds of `WALLCLOCK` since the last advance, none while halted (R156). -/
def Mbc3.advance (now : Nat) (r : Mbc3) : Mbc3 :=
  { r with live := if r.live.halt then r.live else rtcTicks (now - r.lastTime) r.live, lastTime := now }

/-- Whether the selector names an RTC register (R151). -/
def Mbc3.selectsRtc (r : Mbc3) : Bool := decide (0x08 ≤ r.sel ∧ r.sel ≤ 0x0C)

/-- `rtcWrite(sel, v)` after its advance: the value masked to its field (R154). -/
def rtcStore (r : Rtc) (sel v : Byte) : Rtc :=
  if sel = 0x08 then { r with s := v.setWidth 6 }
  else if sel = 0x09 then { r with m := v.setWidth 6 }
  else if sel = 0x0A then { r with h := v.setWidth 5 }
  else if sel = 0x0B then { r with dl := v }
  else if sel = 0x0C then { r with dayHigh := v.getLsbD 0, halt := v.getLsbD 6, carry := v.getLsbD 7 }
  else r

/-- The latched register a selector of 0x08 to 0x0C reads, 0xFF for any other (R152). -/
def rtcLatchedByte (r : Rtc) (sel : Byte) : Byte :=
  if sel = 0x08 then r.s.setWidth 8
  else if sel = 0x09 then r.m.setWidth 8
  else if sel = 0x0A then r.h.setWidth 8
  else if sel = 0x0B then r.dl
  else if sel = 0x0C then rtcDayHighByte r
  else 0xFF

/-- A write to 0x6000 to 0x7FFF: the latch sequence (R153). -/
def Mbc3.latchStep (now : Nat) (r : Mbc3) (v : Byte) : Mbc3 :=
  if r.latchArmed && v == 0x01 then
    let t := r.advance now
    { t with latched := t.live, latchArmed := false }
  else { r with latchArmed := v == 0x00 }

/-! ### Reads -/

/-- MBC1's `ramBank()` (R132). -/
def Mbc1.ramBank (r : Mbc1) : Nat := if r.mode then r.hi2.toNat else 0

/-- The bank MBC1 shows at 0x0000 to 0x3FFF (R132). -/
def Mbc1.fixedBank (model : Mbc1Model) (r : Mbc1) : Nat :=
  match model with
  | .hardware => if r.mode then r.hi2.toNat * 32 else 0
  | .legacy => 0

/-- The bank MBC1 shows at 0x4000 to 0x7FFF (R132). -/
def Mbc1.switchBank (model : Mbc1Model) (r : Mbc1) : Nat :=
  match model with
  | .hardware => r.hi2.toNat * 32 + r.lo5.toNat
  | .legacy => if r.mode then r.lo5.toNat else r.hi2.toNat * 32 + r.lo5.toNat

/-- MBC5's bank at 0x4000 to 0x7FFF: bank 0 reads as bank 1 (R167). -/
def Mbc5.switchBank (r : Mbc5) : Nat := if r.bank9 = 0 then 1 else r.bank9.toNat

/-- `cart.read(a)`, for an address in 0x0000 to 0x7FFF or 0xA000 to 0xBFFF: the value (R120, R128, R132, R142, R152, R167). -/
def Cartridge.read (model : Mbc1Model) (c : Cartridge) (a : Word) : Byte :=
  let n := a.toNat
  match c.mbc with
  | .noMbc arr => arrRead c.rom arr n
  | .mbc1 r =>
    if n ≤ 0x3FFF then romByte c.rom (r.fixedBank model) n
    else if n ≤ 0x7FFF then romByte c.rom (r.switchBank model) (n - 0x4000)
    else c.ramRead r.ramEnabled r.ramBank (n - 0xA000)
  | .mbc2 r =>
    if n ≤ 0x3FFF then romByte c.rom 0 n
    else if n ≤ 0x7FFF then romByte c.rom r.bank4.toNat (n - 0x4000)
    else if r.ramEnabled then Memory.read c.ram (n % 0x200) ||| 0xF0 else 0xFF
  | .mbc3 r =>
    if n ≤ 0x3FFF then romByte c.rom 0 n
    else if n ≤ 0x7FFF then romByte c.rom r.bank7.toNat (n - 0x4000)
    else if !r.ramEnabled then 0xFF
    else if r.sel ≤ 0x07 then c.ramRead true r.sel.toNat (n - 0xA000)
    else rtcLatchedByte r.latched r.sel
  | .mbc5 r =>
    if n ≤ 0x3FFF then romByte c.rom 0 n
    else if n ≤ 0x7FFF then romByte c.rom r.switchBank (n - 0x4000)
    else c.ramRead r.ramEnabled r.rbank.toNat (n - 0xA000)

/-- What a read leaves: an MBC3 read of 0xA000 to 0xBFFF with an RTC register selected advances the live clock (R152, R82),
with RAM disabled too: DEDUCED (log entry 17), safe. -/
def Cartridge.afterRead (now : Nat) (c : Cartridge) (a : Word) : Cartridge :=
  match c.mbc with
  | .mbc3 r => if 0xA000 ≤ a.toNat && r.selectsRtc then { c with mbc := .mbc3 (r.advance now) } else c
  | .noMbc _ | .mbc1 _ | .mbc2 _ | .mbc5 _ => c

/-! ### Writes -/

/-- A NoMBC write (R128). -/
def writeNoMbc (c : Cartridge) (arr : Memory) (n : Nat) (v : Byte) : Cartridge :=
  if n ≤ 0x3FFF then c else { c with mbc := .noMbc (arrWrite c.rom arr n v) }

/-- An MBC1 write (R131). -/
def writeMbc1 (c : Cartridge) (r : Mbc1) (n : Nat) (v : Byte) : Cartridge :=
  if n ≤ 0x1FFF then { c with mbc := .mbc1 { r with ramEnabled := enablesRam v } }
  else if n ≤ 0x3FFF then
    { c with mbc := .mbc1 { r with lo5 := if v.setWidth 5 = (0 : BitVec 5) then 1 else v.setWidth 5 } }
  else if n ≤ 0x5FFF then { c with mbc := .mbc1 { r with hi2 := v.setWidth 2 } }
  else if n ≤ 0x7FFF then { c with mbc := .mbc1 { r with mode := v.getLsbD 0 } }
  else c.ramWrite r.ramEnabled r.ramBank (n - 0xA000) v

/-- An MBC2 write (R141). -/
def writeMbc2 (c : Cartridge) (r : Mbc2) (n : Nat) (v : Byte) : Cartridge :=
  if n ≤ 0x3FFF then
    if n.testBit 8 then
      { c with mbc := .mbc2 { r with bank4 := if v.setWidth 4 = (0 : BitVec 4) then 1 else v.setWidth 4 } }
    else { c with mbc := .mbc2 { r with ramEnabled := enablesRam v } }
  else if n ≤ 0x7FFF then c
  else if r.ramEnabled then { c with ram := Memory.write c.ram (n % 0x200) v } else c

/-- An MBC3 write (R151). -/
def writeMbc3 (now : Nat) (c : Cartridge) (r : Mbc3) (n : Nat) (v : Byte) : Cartridge :=
  if n ≤ 0x1FFF then { c with mbc := .mbc3 { r with ramEnabled := enablesRam v } }
  else if n ≤ 0x3FFF then
    { c with mbc := .mbc3 { r with bank7 := if v.setWidth 7 = (0 : BitVec 7) then 1 else v.setWidth 7 } }
  else if n ≤ 0x5FFF then { c with mbc := .mbc3 { r with sel := v } }
  else if n ≤ 0x7FFF then { c with mbc := .mbc3 (r.latchStep now v) }
  else if r.selectsRtc then
    let t := r.advance now
    { c with mbc := .mbc3 (if r.ramEnabled then { t with live := rtcStore t.live r.sel v } else t) }
  else if r.sel ≤ 0x07 then c.ramWrite r.ramEnabled r.sel.toNat (n - 0xA000) v
  else c

/-- An MBC5 write (R166). -/
def writeMbc5 (c : Cartridge) (r : Mbc5) (n : Nat) (v : Byte) : Cartridge :=
  if n ≤ 0x1FFF then { c with mbc := .mbc5 { r with ramEnabled := enablesRam v } }
  else if n ≤ 0x2FFF then { c with mbc := .mbc5 { r with bank9 := (r.bank9 &&& 0x100) ||| v.setWidth 9 } }
  else if n ≤ 0x3FFF then
    { c with mbc := .mbc5 { r with bank9 := ((v.setWidth 9 &&& 0x001) <<< 8) ||| (r.bank9 &&& 0x0FF) } }
  else if n ≤ 0x5FFF then
    if isRumbleType c.rom then
      { c with mbc := .mbc5 { r with rumble := v.getLsbD 3, rbank := v.setWidth 4 &&& 0x7 } }
    else { c with mbc := .mbc5 { r with rbank := v.setWidth 4 } }
  else if n ≤ 0x7FFF then c
  else c.ramWrite r.ramEnabled r.rbank.toNat (n - 0xA000) v

/-- `cart.write(a, v)`, for an address in 0x0000 to 0x7FFF or 0xA000 to 0xBFFF (R120). -/
def Cartridge.write (now : Nat) (c : Cartridge) (a : Word) (v : Byte) : Cartridge :=
  match c.mbc with
  | .noMbc arr => writeNoMbc c arr a.toNat v
  | .mbc1 r => writeMbc1 c r a.toNat v
  | .mbc2 r => writeMbc2 c r a.toNat v
  | .mbc3 r => writeMbc3 now c r a.toNat v
  | .mbc5 r => writeMbc5 c r a.toNat v

/-! ### Battery RAM (R175) -/

/-- `getRAM()`: the RAM bytes, nothing for NoMBC. -/
def Cartridge.getRam (c : Cartridge) : Option (List Byte) :=
  match c.mbc with
  | .noMbc _ => none
  | .mbc1 _ | .mbc2 _ | .mbc3 _ | .mbc5 _ => some ((List.range c.ramSize).map (Memory.read c.ram))

/-- `setRAM(b)`: the first min(len b, RAM size) bytes; none for NoMBC: DESIGN CHOICE (log entry 21), safe. -/
def Cartridge.setRam (c : Cartridge) (bytes : List Byte) : Cartridge :=
  { c with ram := Memory.writeAll c.ram 0 (bytes.take c.ramSize) }

end Sys2Proof.Machine
end

