-- ==== Sys2Proof/Machine/PowerOn.lean ====
section
/-! DEFINITION. The values construction gives, in the two profiles of 70_reset_and_hazards.md R570: `boot = true` with a boot
ROM present, `boot = false` (post-boot) without. -/

namespace Sys2Proof.Machine

/-- The CPU registers (R571). -/
def regsAtReset (boot : Bool) : Regs :=
  if boot then { a := 0x00, f := 0x00, b := 0x00, c := 0x00, d := 0x00, e := 0x00, h := 0x00, l := 0x00, sp := 0x0000, pc := 0x0000 }
  else { a := 0x01, f := 0xB0, b := 0x00, c := 0x13, d := 0x00, e := 0xD8, h := 0x01, l := 0x4D, sp := 0xFFFE, pc := 0x0100 }

/-- 0xFF10 to 0xFF25 in the post-boot profile (R573). -/
def audioPostBoot : List Byte :=
  [0x80, 0xBF, 0xF3, 0xFF, 0xBF] ++                 -- NR10 to NR14
  [0x00, 0x3F, 0x00, 0xFF, 0xBF] ++                 -- 0xFF15, NR21 to NR24
  [0x7F, 0xFF, 0x9F, 0xFF, 0xBF] ++                 -- NR30 to NR34
  [0x00, 0xFF, 0x00, 0x00, 0xBF] ++                 -- 0xFF1F, NR41 to NR44
  [0x77, 0xF3]                                      -- NR50, NR51

/-- The buttons with none pressed: those of every slot at construction. R573 says so of JOYP's reading in the post-boot profile; for
the boot profile and the other slots it is a DESIGN CHOICE (log entry 4), unsafe. -/
def noButtons : Buttons :=
  { up := false, down := false, left := false, right := false, a := false, b := false, start := false, select := false }

/-- The memory bus (R572, R573, R570 step 2). -/
def busAtReset (boot : Bool) (ramInit : Memory) : Bus :=
  { flat := Memory.slice ramInit 0 0x10000 0
    bootActive := boot
    ifReg := if boot then 0x00 else 0x01
    ieReg := 0x00
    timer := { div := if boot then 0x00 else 0xAB, divAcc := 0, tima := 0x00, tma := 0x00, tac := 0, timaAcc := 0 }
    joypad := { sel := 0, slot0 := noButtons, others := [] }
    dmaReg := if boot then 0x00 else 0xFF
    sb := 0x00
    sc := if boot then 0x00 else 0x7E
    audio :=
      { power := !boot
        regs :=
          let wave := Memory.slice ramInit 0xFF30 0x10 0xFF30
          if boot then wave else Memory.writeAll wave 0xFF10 audioPostBoot } }

/-- The video engine (R572, R573, R574). -/
def videoAtReset (boot : Bool) (ramInit : Memory) : Video :=
  { vram := Memory.slice ramInit 0x8000 0x2000 0
    oam := Memory.slice ramInit 0xFE00 0xA0 0
    lcdc := if boot then 0x00 else 0x91
    statSel := 0
    scy := 0x00
    scx := 0x00
    ly := 0
    lyc := 0x00
    bgp := if boot then 0x00 else 0xFC
    obp0 := 0x00
    obp1 := 0x00
    wy := 0x00
    wx := 0x00
    mode := if boot then .hblank else .oamScan
    lineCycle := 0
    lcdActive := !boot
    winYLatch := false
    winLine := 0
    winDrawn := false
    drawEnd := 252
    spriteBuf := []
    coinc := true
    lines := []
    viewport := [] }

end Sys2Proof.Machine
end

