-- ==== Sys2Proof/Machine/State.lean ====
section
/-! DEFINITION. The machine's state, all of 10_state.md R30 to R45 and the parameters of 00_scope.md R10, as plain data; the
reasons a step can stop; construction and reset (70_reset_and_hazards.md R570). -/

namespace Sys2Proof.Machine

/-- The errors a step can raise (60_exceptions.md R440). A step that raises one moves to the Faulted run state, which keeps the
error and the state at the fault; every later step answers `fault` with it and changes nothing (R431). DESIGN CHOICE (log entry 1),
safe. -/
inductive Fault where
  /-- `IllegalOpcode` with the opcode byte and the address it was fetched from. Raised by the 11 illegal opcodes (46_system.md R416), answered by
  `step` in the Faulted run state. Safe: the spec makes Faulted absorbing. -/
  | illegalOpcode (opcode : Byte) (address : Word)
  /-- `MBCNotLoaded` with the address. Raised by a bus access routed to the cartridge with none loaded (20_memory.md R88),
  answered by `step` in the Faulted run state. Safe: the spec makes Faulted absorbing. -/
  | mbcNotLoaded (address : Word)
deriving DecidableEq, Repr

/-- Reasons to give no meaning. -/
inductive Refusal where
  /-- An arm of `exec` with no meaning yet. No arm of this model answers it. Safe. -/
  | notModelled (mnemonic : String)
deriving DecidableEq, Repr

/-- The run state (10_state.md R37). Faulted keeps `fault_error` (60_exceptions.md R431). -/
inductive RunState where
  | running
  | halted
  | faulted (error : Fault)
deriving DecidableEq, Repr

/-- The state of the machine. -/
structure State where
  /-- The parameters of 00_scope.md R10: no step changes them. DESIGN CHOICE (log entry 2), safe. -/
  params       : Params
  /-- A, F, B, C, D, E, H, L, SP and PC. -/
  regs         : Regs
  /-- IME (10_state.md R36). -/
  ime          : Bool
  /-- The EI delay (10_state.md R38). -/
  imePending   : Bool
  /-- 10_state.md R39. -/
  haltBugArmed : Bool
  /-- The address the last opcode fetch read, which `IllegalOpcode` reports (60_exceptions.md R440). The model's own field: no rule
  names it and nothing else reads it. DESIGN CHOICE (log entry 23), unsafe in its 0 at reset. -/
  opcodeAddr   : Word
  runState     : RunState
  bus          : Bus
  video        : Video
  /-- The loaded cartridge; `none` is no cartridge loaded (20_memory.md R88). -/
  cart         : Option Cartridge
  /-- `WALLCLOCK` in whole seconds, the host's input; it changes between steps only (00_scope.md R10, D34, D57). Its 0 at
  reset is a DESIGN CHOICE (log entry 5), unsafe. -/
  wallClock    : Nat
  /-- The T-cycles of the step: an instruction's meaning sets its cost here, and after the step it is what `step()` returns
  (60_exceptions.md R430). Its 0 at reset is a DESIGN CHOICE (log entry 3), unsafe. -/
  cycles       : Nat
deriving DecidableEq, Repr

/-- What loading the parameters' ROM raises, if anything (70_reset_and_hazards.md R570 step 1). -/
def State.loadError (p : Params) (now : Nat) : Option LoadError :=
  match loadCartridge p.rom p.cartRamInit now with
  | .ok _ => none
  | .error e => some e

/-- `construct(ROM, BOOT_ROM, parameters)` with the wall clock at `now` (70_reset_and_hazards.md R570 to R575). A failed load
gives a machine with no cartridge loaded, as R570 says, where 93_implementation_defined.md I4 and 95_test_vectors.md X16 say that no
machine is built: DESIGN CHOICE (log entry 22), safe. Its error is `State.loadError`. -/
def State.construct (p : Params) (now : Nat) : State :=
  { params := p
    regs := regsAtReset p.bootRom.isSome
    ime := false
    imePending := false
    haltBugArmed := false
    opcodeAddr := 0
    runState := .running
    bus := busAtReset p.bootRom.isSome p.ramInit
    video := videoAtReset p.bootRom.isSome p.ramInit
    cart := (loadCartridge p.rom p.cartRamInit now).toOption
    wallClock := now
    cycles := 0 }

/-- The machine right after reset with every parameter at its default and no ROM given (R10, R570): the post-boot profile, no
cartridge loaded. DESIGN CHOICE (log entry 7), safe: a program comes by loading a ROM from outside. -/
def State.reset : State := State.construct Params.default 0

end Sys2Proof.Machine
end

