-- ==== Sys2Proof/Machine/Access.lean ====
section
/-! DEFINITION. What a bus access or an instruction's body answers: a value and the state, or an error and the state at the
error, which keeps every change made before it (60_exceptions.md R431). -/

namespace Sys2Proof.Machine

/-- The answer of an access. -/
inductive Access (α : Type) where
  | ok (value : α) (s : State)
  | error (e : Fault) (s : State)
deriving DecidableEq, Repr

/-- Go on with the value and the state; the first error ends the instruction (60_exceptions.md R438). -/
def Access.bind {α β : Type} (x : Access α) (next : α → State → Access β) : Access β :=
  match x with
  | .ok v s => next v s
  | .error e s => .error e s

/-- The state an access leaves, with a value or with an error. -/
def Access.state {α : Type} (x : Access α) : State :=
  match x with
  | .ok _ s => s
  | .error _ s => s

/-- `raise E`: the run state becomes Faulted and keeps the error; nothing else changes (60_exceptions.md R430, R431).
DESIGN CHOICE (log entry 1): the step that raises answers this state, and the fault comes with the next step. Safe. -/
def State.raise (s : State) (e : Fault) : State := { s with runState := .faulted e }

/-- The end of an instruction that costs `cost` T-cycles: the next state, Faulted where an access raised an error (R430). -/
def finish (cost : Nat) (x : Access Unit) : Host.Outcome State Fault Refusal :=
  match x with
  | .ok _ s => .next { s with cycles := cost }
  | .error e s => .next (s.raise e)

end Sys2Proof.Machine
end

