-- ==== Sys2Proof/Machine/Bus.lean ====
section
/-! DEFINITION. The memory bus: routing, the I/O registers, bus reads and writes, OAM DMA (20_memory.md R70 to R89;
60_exceptions.md R433 to R476; 61_video.md R501 to R509). -/

namespace Sys2Proof.Machine

/-! ### Routing (R71, R72, R77) -/

/-- An I/O register of 20_memory.md R77. -/
inductive IoReg where
  | joyp | sb | sc | div | tima | tma | tac | ifReg
  /-- A byte of 0xFF10 to 0xFF25, at its bus address. -/
  | audio (a : Nat)
  | nr52
  /-- A byte of wave RAM, 0xFF30 to 0xFF3F, at its bus address. -/
  | wave (a : Nat)
  | lcdc | stat | scy | scx | ly | lyc | dma | bgp | obp0 | obp1 | wy | wx
deriving DecidableEq, Repr

/-- The single-address rows of R77. -/
def ioTable : List (Word × IoReg) :=
  [(0xFF00, .joyp), (0xFF01, .sb), (0xFF02, .sc), (0xFF04, .div), (0xFF05, .tima), (0xFF06, .tma), (0xFF07, .tac),
   (0xFF0F, .ifReg), (0xFF26, .nr52), (0xFF40, .lcdc), (0xFF41, .stat), (0xFF42, .scy), (0xFF43, .scx), (0xFF44, .ly),
   (0xFF45, .lyc), (0xFF46, .dma), (0xFF47, .bgp), (0xFF48, .obp0), (0xFF49, .obp1), (0xFF4A, .wy), (0xFF4B, .wx)]

/-- The register of R77 at an address; `none` for an address that is flat-array storage. -/
def ioReg? (a : Word) : Option IoReg :=
  if 0xFF10 ≤ a ∧ a ≤ 0xFF25 then some (.audio a.toNat)
  else if 0xFF30 ≤ a ∧ a ≤ 0xFF3F then some (.wave a.toNat)
  else ioTable.lookup a

/-- Where an address goes (R71), the boot overlay aside. -/
inductive Route where
  | cart
  /-- VRAM index 0 to 0x1FFF. -/
  | vram (i : Nat)
  /-- OAM index 0 to 159. -/
  | oam (i : Nat)
  | io (r : IoReg)
  | ie
  /-- The flat array at this bus address. -/
  | flat (a : Nat)
deriving DecidableEq, Repr

/-- The routing of R72 and R73; with `ECHO_MIRROR` the echo area goes to WRAM. -/
def route (p : Params) (a : Word) : Route :=
  if a ≤ 0x7FFF ∨ (0xA000 ≤ a ∧ a ≤ 0xBFFF) then .cart
  else if 0x8000 ≤ a ∧ a ≤ 0x9FFF then .vram (a.toNat - 0x8000)
  else if 0xE000 ≤ a ∧ a ≤ 0xFDFF ∧ p.echoMirror then .flat (a.toNat - 0x2000)
  else if 0xFE00 ≤ a ∧ a ≤ 0xFE9F then .oam (a.toNat - 0xFE00)
  else if a = 0xFFFF then .ie
  else
    match ioReg? a with
    | some r => .io r
    | none => .flat a.toNat

/-! ### Reads -/

/-- JOYP's low nibble lines that a pressed, selected button pulls to 0 (60_exceptions.md R460). -/
def joypadLines (j : Joypad) : Byte :=
  let pad := bitIf j.slot0.right 0 ||| bitIf j.slot0.left 1 ||| bitIf j.slot0.up 2 ||| bitIf j.slot0.down 3
  let act := bitIf j.slot0.a 0 ||| bitIf j.slot0.b 1 ||| bitIf j.slot0.select 2 ||| bitIf j.slot0.start 3
  (if j.sel.getLsbD 0 then 0 else pad) ||| (if j.sel.getLsbD 1 then 0 else act)
where
  bitIf (b : Bool) (k : Nat) : Byte := if b then (1 : Byte) <<< k else 0

/-- The value of JOYP (60_exceptions.md R460). -/
def joypadByte (j : Joypad) : Byte := 0xC0 ||| (j.sel.setWidth 8 <<< 4) ||| (0x0F &&& ~~~(joypadLines j))

/-- STAT's mode bits (61_video.md R504). -/
def modeBits (m : Mode) : Byte :=
  match m with
  | .hblank => 0
  | .vblank => 1
  | .oamScan => 2
  | .draw => 3

/-- The value of STAT (61_video.md R504). -/
def statByte (v : Video) : Byte :=
  0x80 ||| (v.statSel.setWidth 8 <<< 3) ||| (if v.coinc then 0x04 else 0) ||| modeBits v.mode

/-- `io_read` (R77 and the owning rules). -/
def ioRead (s : State) (r : IoReg) : Byte :=
  match r with
  | .joyp => joypadByte s.bus.joypad
  | .sb => s.bus.sb
  | .sc => s.bus.sc
  | .div => s.bus.timer.div
  | .tima => s.bus.timer.tima
  | .tma => s.bus.timer.tma
  | .tac => 0xF8 ||| s.bus.timer.tac.setWidth 8
  | .ifReg => 0xE0 ||| s.bus.ifReg.setWidth 8
  | .audio a => Memory.read s.bus.audio.regs a
  | .nr52 => (if s.bus.audio.power then 0x80 else 0) ||| 0x70
  | .wave a => Memory.read s.bus.audio.regs a
  | .lcdc => s.video.lcdc
  | .stat => statByte s.video
  | .scy => s.video.scy
  | .scx => s.video.scx
  | .ly => BitVec.ofNat 8 s.video.ly
  | .lyc => s.video.lyc
  | .dma => s.bus.dmaReg
  | .bgp => s.video.bgp
  | .obp0 => s.video.obp0
  | .obp1 => s.video.obp1
  | .wy => s.video.wy
  | .wx => s.video.wx

/-- The overlay answers reads of 0x0000 to 0x00FF while it is active (R72, R74). -/
def overlaid (s : State) (a : Word) : Bool := s.bus.bootActive && decide (a ≤ 0x00FF)

/-- A byte of the boot image; past the end of a shorter list, the sentinel 0xFF of R89: DESIGN CHOICE (log entry 6), unsafe for
such lists alone. -/
def bootByte (p : Params) (a : Word) : Byte := ((p.bootRom.getD [])[a.toNat]?).getD 0xFF

/-- The value a bus read of `a` gives (R72); where no cartridge is loaded and the read is the cartridge's, there is none and
`memRead` raises the error. -/
def State.peek (s : State) (a : Word) : Byte :=
  if overlaid s a then bootByte s.params a
  else
    match route s.params a with
    | .cart =>
      match s.cart with
      | some c => c.read s.params.mbc1Model a
      | none => 0xFF
    | .vram i => Memory.read s.video.vram i
    | .oam i => Memory.read s.video.oam i
    | .io r => ioRead s r
    | .ie => s.bus.ieReg
    | .flat i => Memory.read s.bus.flat i

/-- The overlay retired by a read of 0x0100 (R75). -/
def State.retireBoot (s : State) (a : Word) : State :=
  if a = 0x0100 then { s with bus := { s.bus with bootActive := false } } else s

/-- What a bus read of `a` leaves: the overlay retired at 0x0100 (R75), the live RTC advanced (R82), nothing else. -/
def State.afterRead (s : State) (a : Word) : State :=
  let t := s.retireBoot a
  if overlaid t a then t
  else
    match route t.params a with
    | .cart => { t with cart := t.cart.map (fun c => c.afterRead t.wallClock a) }
    | .vram _ | .oam _ | .io _ | .ie | .flat _ => t

/-- A read of `a` reaches the cartridge and none is loaded (R72, R88). -/
def State.readMissesCart (s : State) (a : Word) : Bool :=
  !overlaid s a && decide (route s.params a = .cart) && s.cart.isNone

/-- `MemRead(a, 1)` (R72, R88). -/
def memRead (s : State) (a : Word) : Access Byte :=
  if s.readMissesCart a then .error (.mbcNotLoaded a) (s.afterRead a)
  else .ok (s.peek a) (s.afterRead a)

/-! ### Writes -/

/-- Store a byte of OAM (61_video.md R502). -/
def State.writeOam (s : State) (i : Nat) (v : Byte) : State :=
  { s with video := { s.video with oam := Memory.write s.video.oam i v } }

/-- The last `n` bytes of the DMA copy of page `page`: bytes 160 - n to 159, in order (60_exceptions.md R470).
A read that misses the cartridge raises `MBCNotLoaded`, from an LDH too: DEDUCED (log entry 11), safe. -/
def dmaCopy (page : Byte) : Nat → State → Access Unit
  | 0, s => .ok () s
  | n + 1, s =>
    (memRead s (BitVec.ofNat 16 (page.toNat * 256 + (159 - n)))).bind fun v t =>
      dmaCopy page n (t.writeOam (159 - n) v)

/-- A write to the audio file: dropped at 0xFF10 to 0xFF25 while the power is off (60_exceptions.md R476). -/
def audioWrite (x : Audio) (a : Nat) (v : Byte) : Audio :=
  if x.power then { x with regs := Memory.write x.regs a v } else x

/-- A write of NR52: bit 7 is the power; off zeroes 0xFF10 to 0xFF25 (60_exceptions.md R476). -/
def nr52Write (x : Audio) (v : Byte) : Audio :=
  if v.getLsbD 7 then { x with power := true }
  else { power := false, regs := Memory.writeAll x.regs 0xFF10 (List.replicate 22 0) }

/-- `io_write` (R77, R83 and the owning rules). -/
def ioWrite (s : State) (r : IoReg) (v : Byte) : Access Unit :=
  match r with
  | .joyp => .ok () { s with bus := { s.bus with joypad := { s.bus.joypad with sel := v.extractLsb' 4 2 } } }
  | .sb => .ok () { s with bus := { s.bus with sb := v } }
  | .sc => .ok () { s with bus := { s.bus with sc := v } }
  | .div => .ok () { s with bus := { s.bus with timer := { s.bus.timer with div := 0, divAcc := 0 } } }
  | .tima => .ok () { s with bus := { s.bus with timer := { s.bus.timer with tima := v } } }
  | .tma => .ok () { s with bus := { s.bus with timer := { s.bus.timer with tma := v } } }
  | .tac => .ok () { s with bus := { s.bus with timer := { s.bus.timer with tac := v.setWidth 3 } } }
  | .ifReg => .ok () { s with bus := { s.bus with ifReg := v.setWidth 5 } }
  | .audio a => .ok () { s with bus := { s.bus with audio := audioWrite s.bus.audio a v } }
  | .nr52 => .ok () { s with bus := { s.bus with audio := nr52Write s.bus.audio v } }
  | .wave a =>
    .ok () { s with bus := { s.bus with audio := { s.bus.audio with regs := Memory.write s.bus.audio.regs a v } } }
  | .lcdc => .ok () { s with video := { s.video with lcdc := v } }
  | .stat => .ok () { s with video := { s.video with statSel := v.extractLsb' 3 4 } }
  | .scy => .ok () { s with video := { s.video with scy := v } }
  | .scx => .ok () { s with video := { s.video with scx := v } }
  | .ly => .ok () s
  | .lyc => .ok () { s with video := { s.video with lyc := v } }
  | .dma => dmaCopy v 160 { s with bus := { s.bus with dmaReg := v } }
  | .bgp => .ok () { s with video := { s.video with bgp := v } }
  | .obp0 => .ok () { s with video := { s.video with obp0 := v } }
  | .obp1 => .ok () { s with video := { s.video with obp1 := v } }
  | .wy => .ok () { s with video := { s.video with wy := v } }
  | .wx => .ok () { s with video := { s.video with wx := v } }

/-- `MemWrite(a, 1, v)` (R73, R88). -/
def memWrite (s : State) (a : Word) (v : Byte) : Access Unit :=
  match route s.params a with
  | .cart =>
    match s.cart with
    | some c => .ok () { s with cart := some (c.write s.wallClock a v) }
    | none => .error (.mbcNotLoaded a) s
  | .vram i => .ok () { s with video := { s.video with vram := Memory.write s.video.vram i v } }
  | .oam i => .ok () (s.writeOam i v)
  | .io r => ioWrite s r v
  | .ie => .ok () { s with bus := { s.bus with ieReg := v } }
  | .flat i => .ok () { s with bus := { s.bus with flat := Memory.write s.bus.flat i v } }

end Sys2Proof.Machine
end

