-- ==== Sys2Proof/Machine/Flags.lean ====
section
/-! DEFINITION. The flag byte and every flag computation of the instruction set, as functions of the operands
(10_state.md R31, R35; 42_alu8.md, 43_alu16.md, 44_rotate_shift_bit.md). -/

namespace Sys2Proof.Machine

/-- The four flags (10_state.md R31). -/
structure Flags where
  z : Bool
  n : Bool
  h : Bool
  c : Bool
deriving DecidableEq, Repr

/-- The byte with `b` in bit 0. -/
def bitByte (b : Bool) : Byte := if b then 0x01 else 0x00

/-- F: Z in bit 7, N in bit 6, H in bit 5, C in bit 4, the low nibble 0 (R31). -/
def flagsToByte (x : Flags) : Byte :=
  (bitByte x.z <<< 7) ||| (bitByte x.n <<< 6) ||| (bitByte x.h <<< 5) ||| (bitByte x.c <<< 4)

/-- The flags of F (R31). -/
def flagsOfByte (v : Byte) : Flags :=
  { z := v.getLsbD 7, n := v.getLsbD 6, h := v.getLsbD 5, c := v.getLsbD 4 }

/-! ### The eight ALU operations (42_alu8.md R281 to R288): result and flags -/

/-- ADD and ADC with carry in `cin` (R281, R282). -/
def add8 (a s : Byte) (cin : Bool) : Byte × Flags :=
  let t := a.toNat + s.toNat + cin.toNat
  let r := BitVec.ofNat 8 t
  (r, { z := r == 0, n := false, h := decide (a.toNat % 16 + s.toNat % 16 + cin.toNat > 0x0F), c := decide (t > 0xFF) })

/-- SUB, SBC and CP with borrow in `cin` (R283, R284, R288). -/
def sub8 (a s : Byte) (cin : Bool) : Byte × Flags :=
  let r := a - s - bitByte cin
  (r, { z := r == 0, n := true, h := decide (a.toNat % 16 < s.toNat % 16 + cin.toNat),
        c := decide (a.toNat < s.toNat + cin.toNat) })

/-- AND, XOR and OR: the result `r`, H as given, N and C 0 (R285 to R287). -/
def logic8 (r : Byte) (h : Bool) : Byte × Flags := (r, { z := r == 0, n := false, h := h, c := false })

/-- What an ALU operation leaves in A, and the flags (R281 to R288; CP leaves A as it was). -/
def alu8 (op : AluOp) (a s : Byte) (carry : Bool) : Byte × Flags :=
  match op with
  | .add => add8 a s false
  | .adc => add8 a s carry
  | .sub => sub8 a s false
  | .sbc => sub8 a s carry
  | .and => logic8 (a &&& s) true
  | .xor => logic8 (a ^^^ s) false
  | .or => logic8 (a ||| s) false
  | .cp => (a, (sub8 a s false).2)

/-- INC of a byte; C is kept (R289, R290). -/
def inc8 (v : Byte) (old : Flags) : Byte × Flags :=
  let r := v + 1
  (r, { z := r == 0, n := false, h := v &&& 0x0F == 0x0F, c := old.c })

/-- DEC of a byte; C is kept (R291, R292). -/
def dec8 (v : Byte) (old : Flags) : Byte × Flags :=
  let r := v - 1
  (r, { z := r == 0, n := true, h := v &&& 0x0F == 0x00, c := old.c })

/-- DAA's adjustment and its carry out, from the original A (R293). -/
def daaAdjust (a : Byte) (old : Flags) : Byte × Bool :=
  if old.n then
    ((if old.h then 0x06 else 0) ||| (if old.c then 0x60 else 0), old.c)
  else
    let low := old.h || decide ((a &&& 0x0F) > 0x09)
    let high := old.c || decide (a > 0x99)
    ((if low then 0x06 else 0) ||| (if high then 0x60 else 0), high)

/-- DAA; N is kept (R293). -/
def daa8 (a : Byte) (old : Flags) : Byte × Flags :=
  let adj := daaAdjust a old
  let r := if old.n then a - adj.1 else a + adj.1
  (r, { z := r == 0, n := old.n, h := false, c := adj.2 })

/-! ### 16-bit arithmetic (43_alu16.md) -/

/-- ADD HL,rr: H from bit 11, C from bit 15, Z kept (R320). -/
def addHl16 (h v : Word) (old : Flags) : Word × Flags :=
  let t := h.toNat + v.toNat
  (BitVec.ofNat 16 t,
   { z := old.z, n := false, h := decide (h.toNat % 0x1000 + v.toNat % 0x1000 > 0x0FFF), c := decide (t > 0xFFFF) })

/-- SP plus a signed byte, for ADD SP,e and LD HL,SP+e: H and C from the unsigned addition to the low byte, at bits 3 and 7
(R323, R266, 90_conflicts.md C2). -/
def addSpOffset (sp : Word) (u : Byte) : Word × Flags :=
  (sp + u.signExtend 16,
   { z := false, n := false, h := decide (sp.toNat % 16 + u.toNat % 16 > 0x0F),
     c := decide (sp.toNat % 256 + u.toNat > 0xFF) })

/-! ### Rotates, shifts and bits (44_rotate_shift_bit.md) -/

/-- A rotate or shift of a byte with carry in: the result and the bit shifted out (R345 to R352; SWAP gives 0). -/
def rotate8 (op : RotOp) (v : Byte) (carry : Bool) : Byte × Bool :=
  match op with
  | .rlc => ((v <<< 1) ||| bitByte (v.getLsbD 7), v.getLsbD 7)
  | .rrc => ((v >>> 1) ||| (bitByte (v.getLsbD 0) <<< 7), v.getLsbD 0)
  | .rl => ((v <<< 1) ||| bitByte carry, v.getLsbD 7)
  | .rr => ((v >>> 1) ||| (bitByte carry <<< 7), v.getLsbD 0)
  | .sla => (v <<< 1, v.getLsbD 7)
  | .sra => ((v >>> 1) ||| (v &&& 0x80), v.getLsbD 0)
  | .swap => (((v &&& 0x0F) <<< 4) ||| (v >>> 4), false)
  | .srl => (v >>> 1, v.getLsbD 0)

/-- The flags of a rotate or shift in the extended table: Z from the result (R345 to R352). -/
def rotateFlags (r : Byte × Bool) : Flags := { z := r.1 == 0, n := false, h := false, c := r.2 }

/-- The flags of RLCA, RRCA, RLA and RRA: Z always 0 (R340 to R343). -/
def rotateAFlags (r : Byte × Bool) : Flags := { z := false, n := false, h := false, c := r.2 }

/-- The flags of BIT; C is kept (R353). -/
def bitFlags (v : Byte) (b : BitVec 3) (old : Flags) : Flags :=
  { z := !v.getLsbD b.toNat, n := false, h := true, c := old.c }

/-- RES (R354). -/
def resBit (v : Byte) (b : BitVec 3) : Byte := v &&& ~~~((1 : Byte) <<< b.toNat)

/-- SET (R355). -/
def setBit (v : Byte) (b : BitVec 3) : Byte := v ||| ((1 : Byte) <<< b.toNat)

/-- `cond(cc)` (30_encoding.md R186). -/
def condHolds (cc : Cond) (x : Flags) : Bool :=
  match cc with
  | .nz => !x.z
  | .z => x.z
  | .nc => !x.c
  | .c => x.c

end Sys2Proof.Machine
end

