-- ==== Sys2Proof/Machine/Operands.lean ====
section
/-! DEFINITION. The registers and every operand form (10_state.md R30 to R34; 30_encoding.md R182 to R190, R198). -/

namespace Sys2Proof.Machine

/-! ### Registers and flags -/

/-- `x[r]` of an 8-bit register (R30). -/
def State.getReg (s : State) : Reg8 → Byte
  | .b => s.regs.b
  | .c => s.regs.c
  | .d => s.regs.d
  | .e => s.regs.e
  | .h => s.regs.h
  | .l => s.regs.l
  | .a => s.regs.a

/-- `x[r] <- v` of an 8-bit register (R30). -/
def State.setReg (s : State) (r : Reg8) (v : Byte) : State :=
  match r with
  | .b => { s with regs := { s.regs with b := v } }
  | .c => { s with regs := { s.regs with c := v } }
  | .d => { s with regs := { s.regs with d := v } }
  | .e => { s with regs := { s.regs with e := v } }
  | .h => { s with regs := { s.regs with h := v } }
  | .l => { s with regs := { s.regs with l := v } }
  | .a => { s with regs := { s.regs with a := v } }

/-- The four flags (R31). -/
def State.flags (s : State) : Flags := flagsOfByte s.regs.f

/-- F written from the four flags, its low nibble 0 (R31). -/
def State.setFlags (s : State) (x : Flags) : State := { s with regs := { s.regs with f := flagsToByte x } }

/-- `pc <- target` (R34). -/
def State.setPc (s : State) (v : Word) : State := { s with regs := { s.regs with pc := v } }

/-- `x[SP] <- v` (R33). -/
def State.setSp (s : State) (v : Word) : State := { s with regs := { s.regs with sp := v } }

/-! ### Pairs (R32) -/

/-- The high byte of a word. -/
def hiByte (v : Word) : Byte := v.extractLsb' 8 8

/-- The low byte of a word. -/
def loByte (v : Word) : Byte := v.extractLsb' 0 8

/-- `hi:lo` (00_scope.md R11). -/
def joinBytes (hi lo : Byte) : Word := hi ++ lo

/-- The pair HL. -/
def State.hl (s : State) : Word := joinBytes s.regs.h s.regs.l

/-- `x[HL] <- v`. -/
def State.setHl (s : State) (v : Word) : State := { s with regs := { s.regs with h := hiByte v, l := loByte v } }

/-- `x[rr]` for an `rr` field (R32, R183). -/
def State.getPair (s : State) : Pair → Word
  | .bc => joinBytes s.regs.b s.regs.c
  | .de => joinBytes s.regs.d s.regs.e
  | .hl => s.hl
  | .sp => s.regs.sp

/-- `x[rr] <- v` for an `rr` field (R32, R183). -/
def State.setPair (s : State) (r : Pair) (v : Word) : State :=
  match r with
  | .bc => { s with regs := { s.regs with b := hiByte v, c := loByte v } }
  | .de => { s with regs := { s.regs with d := hiByte v, e := loByte v } }
  | .hl => s.setHl v
  | .sp => s.setSp v

/-- `x[rr]` for an `rr_stk` field (R32, R184). -/
def State.getStackPair (s : State) : StackPair → Word
  | .bc => s.getPair .bc
  | .de => s.getPair .de
  | .hl => s.hl
  | .af => joinBytes s.regs.a s.regs.f

/-- `x[rr] <- v` for an `rr_stk` field; F keeps `v & 0xF0` (R31, R32, R184). -/
def State.setStackPair (s : State) (r : StackPair) (v : Word) : State :=
  match r with
  | .bc => s.setPair .bc v
  | .de => s.setPair .de v
  | .hl => s.setHl v
  | .af => { s with regs := { s.regs with a := hiByte v, f := loByte v &&& 0xF0 } }

/-! ### `r8` operands (R182, R198) -/

/-- `read_r8(k)` (R198). -/
def readR8 (s : State) (k : R8) : Access Byte :=
  match k with
  | .reg r => .ok (s.getReg r) s
  | .atHL => memRead s s.hl

/-- `write_r8(k, v)` (R198). -/
def writeR8 (s : State) (k : R8) (v : Byte) : Access Unit :=
  match k with
  | .reg r => .ok () (s.setReg r v)
  | .atHL => memWrite s s.hl v

/-- The cost of a form, `r` for a register operand and `m` for the memory operand (HL). -/
def costR8 (k : R8) (r m : Nat) : Nat :=
  match k with
  | .reg _ => r
  | .atHL => m

/-! ### `rr_mem` addresses (R185) -/

/-- The address of an `rr_mem` operand. -/
def State.memPairAddr (s : State) : MemPair → Word
  | .bc => s.getPair .bc
  | .de => s.getPair .de
  | .hlInc => s.hl
  | .hlDec => s.hl

/-- HL after an access through (HL+) or (HL-) (40_load8.md R235 to R238). -/
def State.stepMemPair (s : State) (p : MemPair) : State :=
  match p with
  | .bc => s
  | .de => s
  | .hlInc => s.setHl (s.hl + 1)
  | .hlDec => s.setHl (s.hl - 1)

/-! ### Immediates (R190) -/

/-- `0xFF00 + n` (R190). -/
def highPage (n : Byte) : Word := 0xFF00 + n.setWidth 16

/-- The target of a relative jump from `pc`, the next instruction's address (R190, 45_control.md R383). -/
def relTarget (pc : Word) (e : Byte) : Word := pc + e.signExtend 16

/-- The target of RST t (30_encoding.md R189). -/
def rstTarget (t : BitVec 3) : Word := t.setWidth 16 <<< 3

end Sys2Proof.Machine
end

