-- ==== Sys2Proof/Machine/Ops.lean ====
section
/-! DEFINITION. The named operations of 00_scope.md R15 over memory and registers, and the interrupts: request, wake, dispatch
(60_exceptions.md R433 to R439), and the return from a handler (R442). -/

namespace Sys2Proof.Machine

/-! ### Fetch and stack (00_scope.md R15) -/

/-- `fetch8()`. -/
def fetch8 (s : State) : Access Byte :=
  (memRead s s.regs.pc).bind fun v t => .ok v (t.setPc (t.regs.pc + 1))

/-- The state a fetched opcode leaves: its address kept, and pc one higher, or with `halt_bug_armed` set pc as it was and the flag
clear (60_exceptions.md R430, 10_state.md R39). -/
def State.opcodeFetched (s : State) : State :=
  let t := { s with opcodeAddr := s.regs.pc }
  if t.haltBugArmed then { t with haltBugArmed := false } else t.setPc (t.regs.pc + 1)

/-- The opcode fetch (60_exceptions.md R430). -/
def fetchOpcode (s : State) : Access Byte := (memRead s s.regs.pc).bind fun v t => .ok v t.opcodeFetched

/-- `push16(v)`: the high byte first, at SP - 1, then the low byte at SP - 2. -/
def push16 (s : State) (v : Word) : Access Unit :=
  let s1 := s.setSp (s.regs.sp - 1)
  (memWrite s1 s1.regs.sp (hiByte v)).bind fun _ t =>
    let t1 := t.setSp (t.regs.sp - 1)
    memWrite t1 t1.regs.sp (loByte v)

/-- `pop16()`: the low byte from SP, then the high byte from SP + 1. -/
def pop16 (s : State) : Access Word :=
  (memRead s s.regs.sp).bind fun lo t =>
    let t1 := t.setSp (t.regs.sp + 1)
    (memRead t1 t1.regs.sp).bind fun hi u => .ok (joinBytes hi lo) (u.setSp (u.regs.sp + 1))

/-- `MemWrite(a, 2, v)`: the low byte first (00_scope.md R14). -/
def memWrite16 (s : State) (a v : Word) : Access Unit :=
  (memWrite s a (loByte v)).bind fun _ t => memWrite t (a + 1) (hiByte v)

/-! ### Interrupts -/

/-- The five sources in priority order (60_exceptions.md R432). -/
inductive Irq where
  | vblank | lcdStat | timer | serial | joypad
deriving DecidableEq, Repr

/-- The source's bit in IF and IE (R432). -/
def irqBit : Irq → Nat
  | .vblank => 0
  | .lcdStat => 1
  | .timer => 2
  | .serial => 3
  | .joypad => 4

/-- The source's vector, 0x0040 + 8k (R432, R437). -/
def irqVector (k : Irq) : Word := 0x0040 + 8 * BitVec.ofNat 16 (irqBit k)

/-- `request_interrupt(k)`: IF[k] becomes 1, the other bits stay (R433). -/
def State.requestInterrupt (s : State) (k : Irq) : State :=
  { s with bus := { s.bus with ifReg := s.bus.ifReg ||| ((1 : BitVec 5) <<< irqBit k) } }

/-- The pending set, `IE & IF & 0x1F` (R435). -/
def State.pendingIrqs (s : State) : BitVec 5 := s.bus.ieReg.setWidth 5 &&& s.bus.ifReg

/-- The pending source of the lowest bit (R438). -/
def State.firstIrq (s : State) : Option Irq :=
  let p := s.pendingIrqs
  if p.getLsbD 0 then some .vblank
  else if p.getLsbD 1 then some .lcdStat
  else if p.getLsbD 2 then some .timer
  else if p.getLsbD 3 then some .serial
  else if p.getLsbD 4 then some .joypad
  else none

/-- `dispatch(k)`: IME cleared, pc pushed, IF[k] cleared, pc at the vector, in that order (R437). -/
def dispatch (k : Irq) (s : State) : Access Unit :=
  (push16 { s with ime := false } s.regs.pc).bind fun _ t =>
    .ok () { t with
      bus := { t.bus with ifReg := t.bus.ifReg &&& ~~~((1 : BitVec 5) <<< irqBit k) }
      regs := { t.regs with pc := irqVector k } }

/-- The return from a handler, RETI's body: pc popped, IME set at once, `ime_pending` cleared (45_control.md R389, R442). -/
def returnFromInterrupt (s : State) : Access Unit :=
  (pop16 s).bind fun v t => .ok () { t with regs := { t.regs with pc := v }, ime := true, imePending := false }

/-- Wake: a Halted CPU runs again (R436). -/
def State.wake (s : State) : State :=
  match s.runState with
  | .halted => { s with runState := .running }
  | .running | .faulted _ => s

end Sys2Proof.Machine
end

