-- ==== Sys2Proof/Machine/Alu16.lean ====
section
/-! DEFINITION. 16-bit arithmetic (43_alu16.md R320 to R323): the shared operations, then one meaning for each instruction. -/

namespace Sys2Proof.Machine

/-- ADD HL,rr (R320). -/
def addHl (r : Pair) (s : State) : Host.Outcome State Fault Refusal :=
  let x := addHl16 s.hl (s.getPair r) s.flags
  finish 8 (.ok () ((s.setHl x.1).setFlags x.2))

/-- INC rr (R321). -/
def incPair (r : Pair) (s : State) : Host.Outcome State Fault Refusal := finish 8 (.ok () (s.setPair r (s.getPair r + 1)))

/-- DEC rr (R322). -/
def decPair (r : Pair) (s : State) : Host.Outcome State Fault Refusal := finish 8 (.ok () (s.setPair r (s.getPair r - 1)))

/-- ADD SP,e (R323). -/
def addSp (e : Byte) (s : State) : Host.Outcome State Fault Refusal :=
  let x := addSpOffset s.regs.sp e
  finish 16 (.ok () ((s.setSp x.1).setFlags x.2))

/-- 0x03 INC BC (R321). -/
def execIncBC (s : State) : Host.Outcome State Fault Refusal := incPair .bc s

/-- 0x09 ADD HL,BC (R320). -/
def execAddHL_BC (s : State) : Host.Outcome State Fault Refusal := addHl .bc s

/-- 0x0B DEC BC (R322). -/
def execDecBC (s : State) : Host.Outcome State Fault Refusal := decPair .bc s

/-- 0x13 INC DE (R321). -/
def execIncDE (s : State) : Host.Outcome State Fault Refusal := incPair .de s

/-- 0x19 ADD HL,DE (R320). -/
def execAddHL_DE (s : State) : Host.Outcome State Fault Refusal := addHl .de s

/-- 0x1B DEC DE (R322). -/
def execDecDE (s : State) : Host.Outcome State Fault Refusal := decPair .de s

/-- 0x23 INC HL (R321). -/
def execIncHL (s : State) : Host.Outcome State Fault Refusal := incPair .hl s

/-- 0x29 ADD HL,HL (R320). -/
def execAddHL_HL (s : State) : Host.Outcome State Fault Refusal := addHl .hl s

/-- 0x2B DEC HL (R322). -/
def execDecHL (s : State) : Host.Outcome State Fault Refusal := decPair .hl s

/-- 0x33 INC SP (R321). -/
def execIncSP (s : State) : Host.Outcome State Fault Refusal := incPair .sp s

/-- 0x39 ADD HL,SP (R320). -/
def execAddHL_SP (s : State) : Host.Outcome State Fault Refusal := addHl .sp s

/-- 0x3B DEC SP (R322). -/
def execDecSP (s : State) : Host.Outcome State Fault Refusal := decPair .sp s

/-- 0xE8 ADD SP,e (R323). -/
def execAddSP_e (e : Byte) (s : State) : Host.Outcome State Fault Refusal := addSp e s

end Sys2Proof.Machine
end

