-- ==== Sys2Proof/Machine/Alu8.lean ====
section
/-! DEFINITION. 8-bit arithmetic and logic (42_alu8.md R280 to R296): the shared operations, then one meaning for each
instruction. -/

namespace Sys2Proof.Machine

/-- A and the flags after an ALU operation with second operand `v` (R281 to R288). -/
def State.aluStep (s : State) (op : AluOp) (v : Byte) : State :=
  let r := alu8 op s.regs.a v s.flags.c
  (s.setReg .a r.1).setFlags r.2

/-- The register and memory forms (R280). -/
def aluR8 (op : AluOp) (k : R8) (s : State) : Host.Outcome State Fault Refusal :=
  finish (costR8 k 4 8) ((readR8 s k).bind fun v t => .ok () (t.aluStep op v))

/-- The immediate form (R280). -/
def aluImm (op : AluOp) (n : Byte) (s : State) : Host.Outcome State Fault Refusal :=
  finish 8 (.ok () (s.aluStep op n))

/-- INC r and INC (HL): the write, then the flags (R289, R290). -/
def incR8 (k : R8) (s : State) : Host.Outcome State Fault Refusal :=
  finish (costR8 k 4 12) ((readR8 s k).bind fun v t =>
    (writeR8 t k (inc8 v t.flags).1).bind fun _ u => .ok () (u.setFlags (inc8 v u.flags).2))

/-- DEC r and DEC (HL): the write, then the flags (R291, R292). -/
def decR8 (k : R8) (s : State) : Host.Outcome State Fault Refusal :=
  finish (costR8 k 4 12) ((readR8 s k).bind fun v t =>
    (writeR8 t k (dec8 v t.flags).1).bind fun _ u => .ok () (u.setFlags (dec8 v u.flags).2))

/-- DAA (R293). -/
def decimalAdjust (s : State) : Host.Outcome State Fault Refusal :=
  let r := daa8 s.regs.a s.flags
  finish 4 (.ok () ((s.setReg .a r.1).setFlags r.2))

/-- CPL (R294). -/
def complementA (s : State) : Host.Outcome State Fault Refusal :=
  finish 4 (.ok () ((s.setReg .a (s.regs.a ^^^ 0xFF)).setFlags { s.flags with n := true, h := true }))

/-- SCF (R295). -/
def setCarry (s : State) : Host.Outcome State Fault Refusal :=
  finish 4 (.ok () (s.setFlags { s.flags with n := false, h := false, c := true }))

/-- CCF (R296). -/
def complementCarry (s : State) : Host.Outcome State Fault Refusal :=
  finish 4 (.ok () (s.setFlags { s.flags with n := false, h := false, c := !s.flags.c }))

/-- 0x04 INC B (R289). -/
def execIncB (s : State) : Host.Outcome State Fault Refusal := incR8 (.reg .b) s

/-- 0x05 DEC B (R291). -/
def execDecB (s : State) : Host.Outcome State Fault Refusal := decR8 (.reg .b) s

/-- 0x0C INC C (R289). -/
def execIncC (s : State) : Host.Outcome State Fault Refusal := incR8 (.reg .c) s

/-- 0x0D DEC C (R291). -/
def execDecC (s : State) : Host.Outcome State Fault Refusal := decR8 (.reg .c) s

/-- 0x14 INC D (R289). -/
def execIncD (s : State) : Host.Outcome State Fault Refusal := incR8 (.reg .d) s

/-- 0x15 DEC D (R291). -/
def execDecD (s : State) : Host.Outcome State Fault Refusal := decR8 (.reg .d) s

/-- 0x1C INC E (R289). -/
def execIncE (s : State) : Host.Outcome State Fault Refusal := incR8 (.reg .e) s

/-- 0x1D DEC E (R291). -/
def execDecE (s : State) : Host.Outcome State Fault Refusal := decR8 (.reg .e) s

/-- 0x24 INC H (R289). -/
def execIncH (s : State) : Host.Outcome State Fault Refusal := incR8 (.reg .h) s

/-- 0x25 DEC H (R291). -/
def execDecH (s : State) : Host.Outcome State Fault Refusal := decR8 (.reg .h) s

/-- 0x27 DAA (R293). -/
def execDaa (s : State) : Host.Outcome State Fault Refusal := decimalAdjust s

/-- 0x2C INC L (R289). -/
def execIncL (s : State) : Host.Outcome State Fault Refusal := incR8 (.reg .l) s

/-- 0x2D DEC L (R291). -/
def execDecL (s : State) : Host.Outcome State Fault Refusal := decR8 (.reg .l) s

/-- 0x2F CPL (R294). -/
def execCpl (s : State) : Host.Outcome State Fault Refusal := complementA s

/-- 0x34 INC (HL) (R290). -/
def execIncAtHL (s : State) : Host.Outcome State Fault Refusal := incR8 .atHL s

/-- 0x35 DEC (HL) (R292). -/
def execDecAtHL (s : State) : Host.Outcome State Fault Refusal := decR8 .atHL s

/-- 0x37 SCF (R295). -/
def execScf (s : State) : Host.Outcome State Fault Refusal := setCarry s

/-- 0x3C INC A (R289). -/
def execIncA (s : State) : Host.Outcome State Fault Refusal := incR8 (.reg .a) s

/-- 0x3D DEC A (R291). -/
def execDecA (s : State) : Host.Outcome State Fault Refusal := decR8 (.reg .a) s

/-- 0x3F CCF (R296). -/
def execCcf (s : State) : Host.Outcome State Fault Refusal := complementCarry s

/-- 0x80 ADD A,B (R281). -/
def execAddA_B (s : State) : Host.Outcome State Fault Refusal := aluR8 .add (.reg .b) s

/-- 0x81 ADD A,C (R281). -/
def execAddA_C (s : State) : Host.Outcome State Fault Refusal := aluR8 .add (.reg .c) s

/-- 0x82 ADD A,D (R281). -/
def execAddA_D (s : State) : Host.Outcome State Fault Refusal := aluR8 .add (.reg .d) s

/-- 0x83 ADD A,E (R281). -/
def execAddA_E (s : State) : Host.Outcome State Fault Refusal := aluR8 .add (.reg .e) s

/-- 0x84 ADD A,H (R281). -/
def execAddA_H (s : State) : Host.Outcome State Fault Refusal := aluR8 .add (.reg .h) s

/-- 0x85 ADD A,L (R281). -/
def execAddA_L (s : State) : Host.Outcome State Fault Refusal := aluR8 .add (.reg .l) s

/-- 0x86 ADD A,(HL) (R281). -/
def execAddA_atHL (s : State) : Host.Outcome State Fault Refusal := aluR8 .add .atHL s

/-- 0x87 ADD A,A (R281). -/
def execAddA_A (s : State) : Host.Outcome State Fault Refusal := aluR8 .add (.reg .a) s

/-- 0x88 ADC A,B (R282). -/
def execAdcA_B (s : State) : Host.Outcome State Fault Refusal := aluR8 .adc (.reg .b) s

/-- 0x89 ADC A,C (R282). -/
def execAdcA_C (s : State) : Host.Outcome State Fault Refusal := aluR8 .adc (.reg .c) s

/-- 0x8A ADC A,D (R282). -/
def execAdcA_D (s : State) : Host.Outcome State Fault Refusal := aluR8 .adc (.reg .d) s

/-- 0x8B ADC A,E (R282). -/
def execAdcA_E (s : State) : Host.Outcome State Fault Refusal := aluR8 .adc (.reg .e) s

/-- 0x8C ADC A,H (R282). -/
def execAdcA_H (s : State) : Host.Outcome State Fault Refusal := aluR8 .adc (.reg .h) s

/-- 0x8D ADC A,L (R282). -/
def execAdcA_L (s : State) : Host.Outcome State Fault Refusal := aluR8 .adc (.reg .l) s

/-- 0x8E ADC A,(HL) (R282). -/
def execAdcA_atHL (s : State) : Host.Outcome State Fault Refusal := aluR8 .adc .atHL s

/-- 0x8F ADC A,A (R282). -/
def execAdcA_A (s : State) : Host.Outcome State Fault Refusal := aluR8 .adc (.reg .a) s

/-- 0x90 SUB B (R283). -/
def execSubB (s : State) : Host.Outcome State Fault Refusal := aluR8 .sub (.reg .b) s

/-- 0x91 SUB C (R283). -/
def execSubC (s : State) : Host.Outcome State Fault Refusal := aluR8 .sub (.reg .c) s

/-- 0x92 SUB D (R283). -/
def execSubD (s : State) : Host.Outcome State Fault Refusal := aluR8 .sub (.reg .d) s

/-- 0x93 SUB E (R283). -/
def execSubE (s : State) : Host.Outcome State Fault Refusal := aluR8 .sub (.reg .e) s

/-- 0x94 SUB H (R283). -/
def execSubH (s : State) : Host.Outcome State Fault Refusal := aluR8 .sub (.reg .h) s

/-- 0x95 SUB L (R283). -/
def execSubL (s : State) : Host.Outcome State Fault Refusal := aluR8 .sub (.reg .l) s

/-- 0x96 SUB (HL) (R283). -/
def execSubAtHL (s : State) : Host.Outcome State Fault Refusal := aluR8 .sub .atHL s

/-- 0x97 SUB A (R283). -/
def execSubA (s : State) : Host.Outcome State Fault Refusal := aluR8 .sub (.reg .a) s

/-- 0x98 SBC A,B (R284). -/
def execSbcA_B (s : State) : Host.Outcome State Fault Refusal := aluR8 .sbc (.reg .b) s

/-- 0x99 SBC A,C (R284). -/
def execSbcA_C (s : State) : Host.Outcome State Fault Refusal := aluR8 .sbc (.reg .c) s

/-- 0x9A SBC A,D (R284). -/
def execSbcA_D (s : State) : Host.Outcome State Fault Refusal := aluR8 .sbc (.reg .d) s

/-- 0x9B SBC A,E (R284). -/
def execSbcA_E (s : State) : Host.Outcome State Fault Refusal := aluR8 .sbc (.reg .e) s

/-- 0x9C SBC A,H (R284). -/
def execSbcA_H (s : State) : Host.Outcome State Fault Refusal := aluR8 .sbc (.reg .h) s

/-- 0x9D SBC A,L (R284). -/
def execSbcA_L (s : State) : Host.Outcome State Fault Refusal := aluR8 .sbc (.reg .l) s

/-- 0x9E SBC A,(HL) (R284). -/
def execSbcA_atHL (s : State) : Host.Outcome State Fault Refusal := aluR8 .sbc .atHL s

/-- 0x9F SBC A,A (R284). -/
def execSbcA_A (s : State) : Host.Outcome State Fault Refusal := aluR8 .sbc (.reg .a) s

/-- 0xA0 AND B (R285). -/
def execAndB (s : State) : Host.Outcome State Fault Refusal := aluR8 .and (.reg .b) s

/-- 0xA1 AND C (R285). -/
def execAndC (s : State) : Host.Outcome State Fault Refusal := aluR8 .and (.reg .c) s

/-- 0xA2 AND D (R285). -/
def execAndD (s : State) : Host.Outcome State Fault Refusal := aluR8 .and (.reg .d) s

/-- 0xA3 AND E (R285). -/
def execAndE (s : State) : Host.Outcome State Fault Refusal := aluR8 .and (.reg .e) s

/-- 0xA4 AND H (R285). -/
def execAndH (s : State) : Host.Outcome State Fault Refusal := aluR8 .and (.reg .h) s

/-- 0xA5 AND L (R285). -/
def execAndL (s : State) : Host.Outcome State Fault Refusal := aluR8 .and (.reg .l) s

/-- 0xA6 AND (HL) (R285). -/
def execAndAtHL (s : State) : Host.Outcome State Fault Refusal := aluR8 .and .atHL s

/-- 0xA7 AND A (R285). -/
def execAndA (s : State) : Host.Outcome State Fault Refusal := aluR8 .and (.reg .a) s

/-- 0xA8 XOR B (R286). -/
def execXorB (s : State) : Host.Outcome State Fault Refusal := aluR8 .xor (.reg .b) s

/-- 0xA9 XOR C (R286). -/
def execXorC (s : State) : Host.Outcome State Fault Refusal := aluR8 .xor (.reg .c) s

/-- 0xAA XOR D (R286). -/
def execXorD (s : State) : Host.Outcome State Fault Refusal := aluR8 .xor (.reg .d) s

/-- 0xAB XOR E (R286). -/
def execXorE (s : State) : Host.Outcome State Fault Refusal := aluR8 .xor (.reg .e) s

/-- 0xAC XOR H (R286). -/
def execXorH (s : State) : Host.Outcome State Fault Refusal := aluR8 .xor (.reg .h) s

/-- 0xAD XOR L (R286). -/
def execXorL (s : State) : Host.Outcome State Fault Refusal := aluR8 .xor (.reg .l) s

/-- 0xAE XOR (HL) (R286). -/
def execXorAtHL (s : State) : Host.Outcome State Fault Refusal := aluR8 .xor .atHL s

/-- 0xAF XOR A (R286). -/
def execXorA (s : State) : Host.Outcome State Fault Refusal := aluR8 .xor (.reg .a) s

/-- 0xB0 OR B (R287). -/
def execOrB (s : State) : Host.Outcome State Fault Refusal := aluR8 .or (.reg .b) s

/-- 0xB1 OR C (R287). -/
def execOrC (s : State) : Host.Outcome State Fault Refusal := aluR8 .or (.reg .c) s

/-- 0xB2 OR D (R287). -/
def execOrD (s : State) : Host.Outcome State Fault Refusal := aluR8 .or (.reg .d) s

/-- 0xB3 OR E (R287). -/
def execOrE (s : State) : Host.Outcome State Fault Refusal := aluR8 .or (.reg .e) s

/-- 0xB4 OR H (R287). -/
def execOrH (s : State) : Host.Outcome State Fault Refusal := aluR8 .or (.reg .h) s

/-- 0xB5 OR L (R287). -/
def execOrL (s : State) : Host.Outcome State Fault Refusal := aluR8 .or (.reg .l) s

/-- 0xB6 OR (HL) (R287). -/
def execOrAtHL (s : State) : Host.Outcome State Fault Refusal := aluR8 .or .atHL s

/-- 0xB7 OR A (R287). -/
def execOrA (s : State) : Host.Outcome State Fault Refusal := aluR8 .or (.reg .a) s

/-- 0xB8 CP B (R288). -/
def execCpB (s : State) : Host.Outcome State Fault Refusal := aluR8 .cp (.reg .b) s

/-- 0xB9 CP C (R288). -/
def execCpC (s : State) : Host.Outcome State Fault Refusal := aluR8 .cp (.reg .c) s

/-- 0xBA CP D (R288). -/
def execCpD (s : State) : Host.Outcome State Fault Refusal := aluR8 .cp (.reg .d) s

/-- 0xBB CP E (R288). -/
def execCpE (s : State) : Host.Outcome State Fault Refusal := aluR8 .cp (.reg .e) s

/-- 0xBC CP H (R288). -/
def execCpH (s : State) : Host.Outcome State Fault Refusal := aluR8 .cp (.reg .h) s

/-- 0xBD CP L (R288). -/
def execCpL (s : State) : Host.Outcome State Fault Refusal := aluR8 .cp (.reg .l) s

/-- 0xBE CP (HL) (R288). -/
def execCpAtHL (s : State) : Host.Outcome State Fault Refusal := aluR8 .cp .atHL s

/-- 0xBF CP A (R288). -/
def execCpA (s : State) : Host.Outcome State Fault Refusal := aluR8 .cp (.reg .a) s

/-- 0xC6 ADD A,n (R281). -/
def execAddA_n (n : Byte) (s : State) : Host.Outcome State Fault Refusal := aluImm .add n s

/-- 0xCE ADC A,n (R282). -/
def execAdcA_n (n : Byte) (s : State) : Host.Outcome State Fault Refusal := aluImm .adc n s

/-- 0xD6 SUB n (R283). -/
def execSub_n (n : Byte) (s : State) : Host.Outcome State Fault Refusal := aluImm .sub n s

/-- 0xDE SBC A,n (R284). -/
def execSbcA_n (n : Byte) (s : State) : Host.Outcome State Fault Refusal := aluImm .sbc n s

/-- 0xE6 AND n (R285). -/
def execAnd_n (n : Byte) (s : State) : Host.Outcome State Fault Refusal := aluImm .and n s

/-- 0xEE XOR n (R286). -/
def execXor_n (n : Byte) (s : State) : Host.Outcome State Fault Refusal := aluImm .xor n s

/-- 0xF6 OR n (R287). -/
def execOr_n (n : Byte) (s : State) : Host.Outcome State Fault Refusal := aluImm .or n s

/-- 0xFE CP n (R288). -/
def execCp_n (n : Byte) (s : State) : Host.Outcome State Fault Refusal := aluImm .cp n s

end Sys2Proof.Machine
end

