-- ==== Sys2Proof/Machine/Control.lean ====
section
/-! DEFINITION. Control transfers (45_control.md R380 to R390): the shared operations, then one meaning for each instruction. -/

namespace Sys2Proof.Machine

/-- JP nn (R380). -/
def jumpTo (nn : Word) (s : State) : Host.Outcome State Fault Refusal := finish 16 (.ok () (s.setPc nn))

/-- JP cc,nn (R381). -/
def jumpIf (cc : Cond) (nn : Word) (s : State) : Host.Outcome State Fault Refusal :=
  if condHolds cc s.flags then finish 16 (.ok () (s.setPc nn)) else finish 12 (.ok () s)

/-- JP HL (R382). -/
def jumpHl (s : State) : Host.Outcome State Fault Refusal := finish 4 (.ok () (s.setPc s.hl))

/-- JR e (R383). -/
def jumpRel (e : Byte) (s : State) : Host.Outcome State Fault Refusal :=
  finish 12 (.ok () (s.setPc (relTarget s.regs.pc e)))

/-- JR cc,e (R384). -/
def jumpRelIf (cc : Cond) (e : Byte) (s : State) : Host.Outcome State Fault Refusal :=
  if condHolds cc s.flags then finish 12 (.ok () (s.setPc (relTarget s.regs.pc e))) else finish 8 (.ok () s)

/-- Push pc and go to `target`, the body of CALL and RST (R385, R390). -/
def callBody (target : Word) (s : State) : Access Unit :=
  (push16 s s.regs.pc).bind fun _ t => .ok () (t.setPc target)

/-- Pop pc, the body of RET (R387). -/
def retBody (s : State) : Access Unit := (pop16 s).bind fun v t => .ok () (t.setPc v)

/-- CALL nn (R385). -/
def call (nn : Word) (s : State) : Host.Outcome State Fault Refusal := finish 24 (callBody nn s)

/-- CALL cc,nn (R386). -/
def callIf (cc : Cond) (nn : Word) (s : State) : Host.Outcome State Fault Refusal :=
  if condHolds cc s.flags then finish 24 (callBody nn s) else finish 12 (.ok () s)

/-- RET (R387). -/
def ret (s : State) : Host.Outcome State Fault Refusal := finish 16 (retBody s)

/-- RET cc (R388). -/
def retIf (cc : Cond) (s : State) : Host.Outcome State Fault Refusal :=
  if condHolds cc s.flags then finish 20 (retBody s) else finish 8 (.ok () s)

/-- RETI (R389). -/
def reti (s : State) : Host.Outcome State Fault Refusal := finish 16 (returnFromInterrupt s)

/-- RST t (R390). -/
def restart (t : BitVec 3) (s : State) : Host.Outcome State Fault Refusal := finish 16 (callBody (rstTarget t) s)

/-- 0x18 JR e (R383). -/
def execJr_e (e : Byte) (s : State) : Host.Outcome State Fault Refusal := jumpRel e s

/-- 0x20 JR NZ,e (R384). -/
def execJrNZ_e (e : Byte) (s : State) : Host.Outcome State Fault Refusal := jumpRelIf .nz e s

/-- 0x28 JR Z,e (R384). -/
def execJrZ_e (e : Byte) (s : State) : Host.Outcome State Fault Refusal := jumpRelIf .z e s

/-- 0x30 JR NC,e (R384). -/
def execJrNC_e (e : Byte) (s : State) : Host.Outcome State Fault Refusal := jumpRelIf .nc e s

/-- 0x38 JR C,e (R384). -/
def execJrC_e (e : Byte) (s : State) : Host.Outcome State Fault Refusal := jumpRelIf .c e s

/-- 0xC0 RET NZ (R388). -/
def execRetNZ (s : State) : Host.Outcome State Fault Refusal := retIf .nz s

/-- 0xC2 JP NZ,nn (R381). -/
def execJpNZ_nn (nn : Word) (s : State) : Host.Outcome State Fault Refusal := jumpIf .nz nn s

/-- 0xC3 JP nn (R380). -/
def execJp_nn (nn : Word) (s : State) : Host.Outcome State Fault Refusal := jumpTo nn s

/-- 0xC4 CALL NZ,nn (R386). -/
def execCallNZ_nn (nn : Word) (s : State) : Host.Outcome State Fault Refusal := callIf .nz nn s

/-- 0xC7 RST 00h (R390). -/
def execRst00 (s : State) : Host.Outcome State Fault Refusal := restart 0 s

/-- 0xC8 RET Z (R388). -/
def execRetZ (s : State) : Host.Outcome State Fault Refusal := retIf .z s

/-- 0xC9 RET (R387). -/
def execRet (s : State) : Host.Outcome State Fault Refusal := ret s

/-- 0xCA JP Z,nn (R381). -/
def execJpZ_nn (nn : Word) (s : State) : Host.Outcome State Fault Refusal := jumpIf .z nn s

/-- 0xCC CALL Z,nn (R386). -/
def execCallZ_nn (nn : Word) (s : State) : Host.Outcome State Fault Refusal := callIf .z nn s

/-- 0xCD CALL nn (R385). -/
def execCall_nn (nn : Word) (s : State) : Host.Outcome State Fault Refusal := call nn s

/-- 0xCF RST 08h (R390). -/
def execRst08 (s : State) : Host.Outcome State Fault Refusal := restart 1 s

/-- 0xD0 RET NC (R388). -/
def execRetNC (s : State) : Host.Outcome State Fault Refusal := retIf .nc s

/-- 0xD2 JP NC,nn (R381). -/
def execJpNC_nn (nn : Word) (s : State) : Host.Outcome State Fault Refusal := jumpIf .nc nn s

/-- 0xD4 CALL NC,nn (R386). -/
def execCallNC_nn (nn : Word) (s : State) : Host.Outcome State Fault Refusal := callIf .nc nn s

/-- 0xD7 RST 10h (R390). -/
def execRst10 (s : State) : Host.Outcome State Fault Refusal := restart 2 s

/-- 0xD8 RET C (R388). -/
def execRetC (s : State) : Host.Outcome State Fault Refusal := retIf .c s

/-- 0xD9 RETI (R389). -/
def execReti (s : State) : Host.Outcome State Fault Refusal := reti s

/-- 0xDA JP C,nn (R381). -/
def execJpC_nn (nn : Word) (s : State) : Host.Outcome State Fault Refusal := jumpIf .c nn s

/-- 0xDC CALL C,nn (R386). -/
def execCallC_nn (nn : Word) (s : State) : Host.Outcome State Fault Refusal := callIf .c nn s

/-- 0xDF RST 18h (R390). -/
def execRst18 (s : State) : Host.Outcome State Fault Refusal := restart 3 s

/-- 0xE7 RST 20h (R390). -/
def execRst20 (s : State) : Host.Outcome State Fault Refusal := restart 4 s

/-- 0xE9 JP HL (R382). -/
def execJpHL (s : State) : Host.Outcome State Fault Refusal := jumpHl s

/-- 0xEF RST 28h (R390). -/
def execRst28 (s : State) : Host.Outcome State Fault Refusal := restart 5 s

/-- 0xF7 RST 30h (R390). -/
def execRst30 (s : State) : Host.Outcome State Fault Refusal := restart 6 s

/-- 0xFF RST 38h (R390). -/
def execRst38 (s : State) : Host.Outcome State Fault Refusal := restart 7 s

end Sys2Proof.Machine
end

