-- ==== Sys2Proof/Machine/Load16.lean ====
section
/-! DEFINITION. The 16-bit loads and stack operations (41_load16_stack.md R260 to R266): the shared operations, then one meaning
for each instruction. -/

namespace Sys2Proof.Machine

/-- LD rr,nn (R260). -/
def loadPair (r : Pair) (nn : Word) (s : State) : Host.Outcome State Fault Refusal :=
  finish 12 (.ok () (s.setPair r nn))

/-- LD (nn),SP (R261). -/
def storeSp (nn : Word) (s : State) : Host.Outcome State Fault Refusal :=
  finish 20 (memWrite16 s nn s.regs.sp)

/-- LD SP,HL (R262). -/
def loadSpHl (s : State) : Host.Outcome State Fault Refusal := finish 8 (.ok () (s.setSp s.hl))

/-- PUSH rr (R263). -/
def pushPair (r : StackPair) (s : State) : Host.Outcome State Fault Refusal := finish 16 (push16 s (s.getStackPair r))

/-- POP rr and POP AF (R264, R265). -/
def popPair (r : StackPair) (s : State) : Host.Outcome State Fault Refusal :=
  finish 12 ((pop16 s).bind fun v t => .ok () (t.setStackPair r v))

/-- LD HL,SP+e (R266). -/
def loadHlSp (e : Byte) (s : State) : Host.Outcome State Fault Refusal :=
  let r := addSpOffset s.regs.sp e
  finish 12 (.ok () ((s.setHl r.1).setFlags r.2))

/-- 0x01 LD BC,nn (R260). -/
def execLdBC_nn (nn : Word) (s : State) : Host.Outcome State Fault Refusal := loadPair .bc nn s

/-- 0x08 LD (nn),SP (R261). -/
def execLdAtNN_SP (nn : Word) (s : State) : Host.Outcome State Fault Refusal := storeSp nn s

/-- 0x11 LD DE,nn (R260). -/
def execLdDE_nn (nn : Word) (s : State) : Host.Outcome State Fault Refusal := loadPair .de nn s

/-- 0x21 LD HL,nn (R260). -/
def execLdHL_nn (nn : Word) (s : State) : Host.Outcome State Fault Refusal := loadPair .hl nn s

/-- 0x31 LD SP,nn (R260). -/
def execLdSP_nn (nn : Word) (s : State) : Host.Outcome State Fault Refusal := loadPair .sp nn s

/-- 0xC1 POP BC (R264). -/
def execPopBC (s : State) : Host.Outcome State Fault Refusal := popPair .bc s

/-- 0xC5 PUSH BC (R263). -/
def execPushBC (s : State) : Host.Outcome State Fault Refusal := pushPair .bc s

/-- 0xD1 POP DE (R264). -/
def execPopDE (s : State) : Host.Outcome State Fault Refusal := popPair .de s

/-- 0xD5 PUSH DE (R263). -/
def execPushDE (s : State) : Host.Outcome State Fault Refusal := pushPair .de s

/-- 0xE1 POP HL (R264). -/
def execPopHL (s : State) : Host.Outcome State Fault Refusal := popPair .hl s

/-- 0xE5 PUSH HL (R263). -/
def execPushHL (s : State) : Host.Outcome State Fault Refusal := pushPair .hl s

/-- 0xF1 POP AF (R265). -/
def execPopAF (s : State) : Host.Outcome State Fault Refusal := popPair .af s

/-- 0xF5 PUSH AF (R263). -/
def execPushAF (s : State) : Host.Outcome State Fault Refusal := pushPair .af s

/-- 0xF8 LD HL,SP+e (R266). -/
def execLdHL_SPe (e : Byte) (s : State) : Host.Outcome State Fault Refusal := loadHlSp e s

/-- 0xF9 LD SP,HL (R262). -/
def execLdSP_HL (s : State) : Host.Outcome State Fault Refusal := loadSpHl s

end Sys2Proof.Machine
end

