-- ==== Sys2Proof/Machine/Load8.lean ====
section
/-! DEFINITION. The 8-bit loads (40_load8.md R220 to R238): the shared operations, then one meaning for each instruction. -/

namespace Sys2Proof.Machine

/-- LD r,r', LD r,(HL) and LD (HL),r (R220, R222, R223). -/
def loadR8 (d k : R8) (s : State) : Host.Outcome State Fault Refusal :=
  finish (max (costR8 d 4 8) (costR8 k 4 8)) ((readR8 s k).bind fun v t => writeR8 t d v)

/-- LD r,n and LD (HL),n (R221, R224). -/
def loadImm (d : R8) (n : Byte) (s : State) : Host.Outcome State Fault Refusal :=
  finish (costR8 d 8 12) (writeR8 s d n)

/-- A from a bus address: LD A,(nn), LDH A,(n), LDH A,(C) (R229, R231, R233). -/
def loadAFrom (addr : Word) (cost : Nat) (s : State) : Host.Outcome State Fault Refusal :=
  finish cost ((memRead s addr).bind fun v t => .ok () (t.setReg .a v))

/-- A to a bus address: LD (nn),A, LDH (n),A, LDH (C),A (R230, R232, R234). -/
def storeAAt (addr : Word) (cost : Nat) (s : State) : Host.Outcome State Fault Refusal :=
  finish cost (memWrite s addr s.regs.a)

/-- LD A,(BC), LD A,(DE), LD A,(HL+), LD A,(HL-) (R225, R226, R237, R238). -/
def loadAMem (p : MemPair) (s : State) : Host.Outcome State Fault Refusal :=
  finish 8 ((memRead s (s.memPairAddr p)).bind fun v t => .ok () ((t.setReg .a v).stepMemPair p))

/-- LD (BC),A, LD (DE),A, LD (HL+),A, LD (HL-),A (R227, R228, R235, R236). -/
def storeAMem (p : MemPair) (s : State) : Host.Outcome State Fault Refusal :=
  finish 8 ((memWrite s (s.memPairAddr p) s.regs.a).bind fun _ t => .ok () (t.stepMemPair p))

/-- 0x02 LD (BC),A (R227). -/
def execLdAtBC_A (s : State) : Host.Outcome State Fault Refusal := storeAMem .bc s

/-- 0x06 LD B,n (R221). -/
def execLdB_n (n : Byte) (s : State) : Host.Outcome State Fault Refusal := loadImm (.reg .b) n s

/-- 0x0A LD A,(BC) (R225). -/
def execLdA_atBC (s : State) : Host.Outcome State Fault Refusal := loadAMem .bc s

/-- 0x0E LD C,n (R221). -/
def execLdC_n (n : Byte) (s : State) : Host.Outcome State Fault Refusal := loadImm (.reg .c) n s

/-- 0x12 LD (DE),A (R228). -/
def execLdAtDE_A (s : State) : Host.Outcome State Fault Refusal := storeAMem .de s

/-- 0x16 LD D,n (R221). -/
def execLdD_n (n : Byte) (s : State) : Host.Outcome State Fault Refusal := loadImm (.reg .d) n s

/-- 0x1A LD A,(DE) (R226). -/
def execLdA_atDE (s : State) : Host.Outcome State Fault Refusal := loadAMem .de s

/-- 0x1E LD E,n (R221). -/
def execLdE_n (n : Byte) (s : State) : Host.Outcome State Fault Refusal := loadImm (.reg .e) n s

/-- 0x22 LD (HL+),A (R235). -/
def execLdAtHLI_A (s : State) : Host.Outcome State Fault Refusal := storeAMem .hlInc s

/-- 0x26 LD H,n (R221). -/
def execLdH_n (n : Byte) (s : State) : Host.Outcome State Fault Refusal := loadImm (.reg .h) n s

/-- 0x2A LD A,(HL+) (R237). -/
def execLdA_atHLI (s : State) : Host.Outcome State Fault Refusal := loadAMem .hlInc s

/-- 0x2E LD L,n (R221). -/
def execLdL_n (n : Byte) (s : State) : Host.Outcome State Fault Refusal := loadImm (.reg .l) n s

/-- 0x32 LD (HL-),A (R236). -/
def execLdAtHLD_A (s : State) : Host.Outcome State Fault Refusal := storeAMem .hlDec s

/-- 0x36 LD (HL),n (R224). -/
def execLdAtHL_n (n : Byte) (s : State) : Host.Outcome State Fault Refusal := loadImm .atHL n s

/-- 0x3A LD A,(HL-) (R238). -/
def execLdA_atHLD (s : State) : Host.Outcome State Fault Refusal := loadAMem .hlDec s

/-- 0x3E LD A,n (R221). -/
def execLdA_n (n : Byte) (s : State) : Host.Outcome State Fault Refusal := loadImm (.reg .a) n s

/-- 0x40 LD B,B (R220). -/
def execLdB_B (s : State) : Host.Outcome State Fault Refusal := loadR8 (.reg .b) (.reg .b) s

/-- 0x41 LD B,C (R220). -/
def execLdB_C (s : State) : Host.Outcome State Fault Refusal := loadR8 (.reg .b) (.reg .c) s

/-- 0x42 LD B,D (R220). -/
def execLdB_D (s : State) : Host.Outcome State Fault Refusal := loadR8 (.reg .b) (.reg .d) s

/-- 0x43 LD B,E (R220). -/
def execLdB_E (s : State) : Host.Outcome State Fault Refusal := loadR8 (.reg .b) (.reg .e) s

/-- 0x44 LD B,H (R220). -/
def execLdB_H (s : State) : Host.Outcome State Fault Refusal := loadR8 (.reg .b) (.reg .h) s

/-- 0x45 LD B,L (R220). -/
def execLdB_L (s : State) : Host.Outcome State Fault Refusal := loadR8 (.reg .b) (.reg .l) s

/-- 0x46 LD B,(HL) (R222). -/
def execLdB_atHL (s : State) : Host.Outcome State Fault Refusal := loadR8 (.reg .b) .atHL s

/-- 0x47 LD B,A (R220). -/
def execLdB_A (s : State) : Host.Outcome State Fault Refusal := loadR8 (.reg .b) (.reg .a) s

/-- 0x48 LD C,B (R220). -/
def execLdC_B (s : State) : Host.Outcome State Fault Refusal := loadR8 (.reg .c) (.reg .b) s

/-- 0x49 LD C,C (R220). -/
def execLdC_C (s : State) : Host.Outcome State Fault Refusal := loadR8 (.reg .c) (.reg .c) s

/-- 0x4A LD C,D (R220). -/
def execLdC_D (s : State) : Host.Outcome State Fault Refusal := loadR8 (.reg .c) (.reg .d) s

/-- 0x4B LD C,E (R220). -/
def execLdC_E (s : State) : Host.Outcome State Fault Refusal := loadR8 (.reg .c) (.reg .e) s

/-- 0x4C LD C,H (R220). -/
def execLdC_H (s : State) : Host.Outcome State Fault Refusal := loadR8 (.reg .c) (.reg .h) s

/-- 0x4D LD C,L (R220). -/
def execLdC_L (s : State) : Host.Outcome State Fault Refusal := loadR8 (.reg .c) (.reg .l) s

/-- 0x4E LD C,(HL) (R222). -/
def execLdC_atHL (s : State) : Host.Outcome State Fault Refusal := loadR8 (.reg .c) .atHL s

/-- 0x4F LD C,A (R220). -/
def execLdC_A (s : State) : Host.Outcome State Fault Refusal := loadR8 (.reg .c) (.reg .a) s

/-- 0x50 LD D,B (R220). -/
def execLdD_B (s : State) : Host.Outcome State Fault Refusal := loadR8 (.reg .d) (.reg .b) s

/-- 0x51 LD D,C (R220). -/
def execLdD_C (s : State) : Host.Outcome State Fault Refusal := loadR8 (.reg .d) (.reg .c) s

/-- 0x52 LD D,D (R220). -/
def execLdD_D (s : State) : Host.Outcome State Fault Refusal := loadR8 (.reg .d) (.reg .d) s

/-- 0x53 LD D,E (R220). -/
def execLdD_E (s : State) : Host.Outcome State Fault Refusal := loadR8 (.reg .d) (.reg .e) s

/-- 0x54 LD D,H (R220). -/
def execLdD_H (s : State) : Host.Outcome State Fault Refusal := loadR8 (.reg .d) (.reg .h) s

/-- 0x55 LD D,L (R220). -/
def execLdD_L (s : State) : Host.Outcome State Fault Refusal := loadR8 (.reg .d) (.reg .l) s

/-- 0x56 LD D,(HL) (R222). -/
def execLdD_atHL (s : State) : Host.Outcome State Fault Refusal := loadR8 (.reg .d) .atHL s

/-- 0x57 LD D,A (R220). -/
def execLdD_A (s : State) : Host.Outcome State Fault Refusal := loadR8 (.reg .d) (.reg .a) s

/-- 0x58 LD E,B (R220). -/
def execLdE_B (s : State) : Host.Outcome State Fault Refusal := loadR8 (.reg .e) (.reg .b) s

/-- 0x59 LD E,C (R220). -/
def execLdE_C (s : State) : Host.Outcome State Fault Refusal := loadR8 (.reg .e) (.reg .c) s

/-- 0x5A LD E,D (R220). -/
def execLdE_D (s : State) : Host.Outcome State Fault Refusal := loadR8 (.reg .e) (.reg .d) s

/-- 0x5B LD E,E (R220). -/
def execLdE_E (s : State) : Host.Outcome State Fault Refusal := loadR8 (.reg .e) (.reg .e) s

/-- 0x5C LD E,H (R220). -/
def execLdE_H (s : State) : Host.Outcome State Fault Refusal := loadR8 (.reg .e) (.reg .h) s

/-- 0x5D LD E,L (R220). -/
def execLdE_L (s : State) : Host.Outcome State Fault Refusal := loadR8 (.reg .e) (.reg .l) s

/-- 0x5E LD E,(HL) (R222). -/
def execLdE_atHL (s : State) : Host.Outcome State Fault Refusal := loadR8 (.reg .e) .atHL s

/-- 0x5F LD E,A (R220). -/
def execLdE_A (s : State) : Host.Outcome State Fault Refusal := loadR8 (.reg .e) (.reg .a) s

/-- 0x60 LD H,B (R220). -/
def execLdH_B (s : State) : Host.Outcome State Fault Refusal := loadR8 (.reg .h) (.reg .b) s

/-- 0x61 LD H,C (R220). -/
def execLdH_C (s : State) : Host.Outcome State Fault Refusal := loadR8 (.reg .h) (.reg .c) s

/-- 0x62 LD H,D (R220). -/
def execLdH_D (s : State) : Host.Outcome State Fault Refusal := loadR8 (.reg .h) (.reg .d) s

/-- 0x63 LD H,E (R220). -/
def execLdH_E (s : State) : Host.Outcome State Fault Refusal := loadR8 (.reg .h) (.reg .e) s

/-- 0x64 LD H,H (R220). -/
def execLdH_H (s : State) : Host.Outcome State Fault Refusal := loadR8 (.reg .h) (.reg .h) s

/-- 0x65 LD H,L (R220). -/
def execLdH_L (s : State) : Host.Outcome State Fault Refusal := loadR8 (.reg .h) (.reg .l) s

/-- 0x66 LD H,(HL) (R222). -/
def execLdH_atHL (s : State) : Host.Outcome State Fault Refusal := loadR8 (.reg .h) .atHL s

/-- 0x67 LD H,A (R220). -/
def execLdH_A (s : State) : Host.Outcome State Fault Refusal := loadR8 (.reg .h) (.reg .a) s

/-- 0x68 LD L,B (R220). -/
def execLdL_B (s : State) : Host.Outcome State Fault Refusal := loadR8 (.reg .l) (.reg .b) s

/-- 0x69 LD L,C (R220). -/
def execLdL_C (s : State) : Host.Outcome State Fault Refusal := loadR8 (.reg .l) (.reg .c) s

/-- 0x6A LD L,D (R220). -/
def execLdL_D (s : State) : Host.Outcome State Fault Refusal := loadR8 (.reg .l) (.reg .d) s

/-- 0x6B LD L,E (R220). -/
def execLdL_E (s : State) : Host.Outcome State Fault Refusal := loadR8 (.reg .l) (.reg .e) s

/-- 0x6C LD L,H (R220). -/
def execLdL_H (s : State) : Host.Outcome State Fault Refusal := loadR8 (.reg .l) (.reg .h) s

/-- 0x6D LD L,L (R220). -/
def execLdL_L (s : State) : Host.Outcome State Fault Refusal := loadR8 (.reg .l) (.reg .l) s

/-- 0x6E LD L,(HL) (R222). -/
def execLdL_atHL (s : State) : Host.Outcome State Fault Refusal := loadR8 (.reg .l) .atHL s

/-- 0x6F LD L,A (R220). -/
def execLdL_A (s : State) : Host.Outcome State Fault Refusal := loadR8 (.reg .l) (.reg .a) s

/-- 0x70 LD (HL),B (R223). -/
def execLdAtHL_B (s : State) : Host.Outcome State Fault Refusal := loadR8 .atHL (.reg .b) s

/-- 0x71 LD (HL),C (R223). -/
def execLdAtHL_C (s : State) : Host.Outcome State Fault Refusal := loadR8 .atHL (.reg .c) s

/-- 0x72 LD (HL),D (R223). -/
def execLdAtHL_D (s : State) : Host.Outcome State Fault Refusal := loadR8 .atHL (.reg .d) s

/-- 0x73 LD (HL),E (R223). -/
def execLdAtHL_E (s : State) : Host.Outcome State Fault Refusal := loadR8 .atHL (.reg .e) s

/-- 0x74 LD (HL),H (R223). -/
def execLdAtHL_H (s : State) : Host.Outcome State Fault Refusal := loadR8 .atHL (.reg .h) s

/-- 0x75 LD (HL),L (R223). -/
def execLdAtHL_L (s : State) : Host.Outcome State Fault Refusal := loadR8 .atHL (.reg .l) s

/-- 0x77 LD (HL),A (R223). -/
def execLdAtHL_A (s : State) : Host.Outcome State Fault Refusal := loadR8 .atHL (.reg .a) s

/-- 0x78 LD A,B (R220). -/
def execLdA_B (s : State) : Host.Outcome State Fault Refusal := loadR8 (.reg .a) (.reg .b) s

/-- 0x79 LD A,C (R220). -/
def execLdA_C (s : State) : Host.Outcome State Fault Refusal := loadR8 (.reg .a) (.reg .c) s

/-- 0x7A LD A,D (R220). -/
def execLdA_D (s : State) : Host.Outcome State Fault Refusal := loadR8 (.reg .a) (.reg .d) s

/-- 0x7B LD A,E (R220). -/
def execLdA_E (s : State) : Host.Outcome State Fault Refusal := loadR8 (.reg .a) (.reg .e) s

/-- 0x7C LD A,H (R220). -/
def execLdA_H (s : State) : Host.Outcome State Fault Refusal := loadR8 (.reg .a) (.reg .h) s

/-- 0x7D LD A,L (R220). -/
def execLdA_L (s : State) : Host.Outcome State Fault Refusal := loadR8 (.reg .a) (.reg .l) s

/-- 0x7E LD A,(HL) (R222). -/
def execLdA_atHL (s : State) : Host.Outcome State Fault Refusal := loadR8 (.reg .a) .atHL s

/-- 0x7F LD A,A (R220). -/
def execLdA_A (s : State) : Host.Outcome State Fault Refusal := loadR8 (.reg .a) (.reg .a) s

/-- 0xE0 LDH (n),A (R232). -/
def execLdhAtN_A (n : Byte) (s : State) : Host.Outcome State Fault Refusal := storeAAt (highPage n) 12 s

/-- 0xE2 LDH (C),A (R234). -/
def execLdhAtC_A (s : State) : Host.Outcome State Fault Refusal := storeAAt (highPage s.regs.c) 8 s

/-- 0xEA LD (nn),A (R230). -/
def execLdAtNN_A (nn : Word) (s : State) : Host.Outcome State Fault Refusal := storeAAt nn 16 s

/-- 0xF0 LDH A,(n) (R231). -/
def execLdhA_atN (n : Byte) (s : State) : Host.Outcome State Fault Refusal := loadAFrom (highPage n) 12 s

/-- 0xF2 LDH A,(C) (R233). -/
def execLdhA_atC (s : State) : Host.Outcome State Fault Refusal := loadAFrom (highPage s.regs.c) 8 s

/-- 0xFA LD A,(nn) (R229). -/
def execLdA_atNN (nn : Word) (s : State) : Host.Outcome State Fault Refusal := loadAFrom nn 16 s

end Sys2Proof.Machine
end

