-- ==== Sys2Proof/Syntax.lean ====
section
/-! DEFINITION. The instruction set: one constructor for each row of spec/opcode_table.json, those with an immediate
first (the runtime's tags of constructors with fields end at 244), each group in the table's order (30_encoding.md R191, R192). A name is the mnemonic, operands after it: `at` marks a memory operand, so `ldA_atHLI` is
LD A,(HL+). `n` and `e` are the byte after the opcode (unsigned, signed), `nn` the word after it (R190). -/

namespace Sys2Proof

/-- An instruction. -/
inductive Instr where
  -- the primary table (R191): the instructions with an immediate
  /-- 0x01 LD BC,nn (R260). -/
  | ldBC_nn (nn : Word)
  /-- 0x06 LD B,n (R221). -/
  | ldB_n (n : Byte)
  /-- 0x08 LD (nn),SP (R261). -/
  | ldAtNN_SP (nn : Word)
  /-- 0x0E LD C,n (R221). -/
  | ldC_n (n : Byte)
  /-- 0x10 STOP (R412). -/
  | stop (n : Byte)
  /-- 0x11 LD DE,nn (R260). -/
  | ldDE_nn (nn : Word)
  /-- 0x16 LD D,n (R221). -/
  | ldD_n (n : Byte)
  /-- 0x18 JR e (R383). -/
  | jr_e (e : Byte)
  /-- 0x1E LD E,n (R221). -/
  | ldE_n (n : Byte)
  /-- 0x20 JR NZ,e (R384). -/
  | jrNZ_e (e : Byte)
  /-- 0x21 LD HL,nn (R260). -/
  | ldHL_nn (nn : Word)
  /-- 0x26 LD H,n (R221). -/
  | ldH_n (n : Byte)
  /-- 0x28 JR Z,e (R384). -/
  | jrZ_e (e : Byte)
  /-- 0x2E LD L,n (R221). -/
  | ldL_n (n : Byte)
  /-- 0x30 JR NC,e (R384). -/
  | jrNC_e (e : Byte)
  /-- 0x31 LD SP,nn (R260). -/
  | ldSP_nn (nn : Word)
  /-- 0x36 LD (HL),n (R224). -/
  | ldAtHL_n (n : Byte)
  /-- 0x38 JR C,e (R384). -/
  | jrC_e (e : Byte)
  /-- 0x3E LD A,n (R221). -/
  | ldA_n (n : Byte)
  /-- 0xC2 JP NZ,nn (R381). -/
  | jpNZ_nn (nn : Word)
  /-- 0xC3 JP nn (R380). -/
  | jp_nn (nn : Word)
  /-- 0xC4 CALL NZ,nn (R386). -/
  | callNZ_nn (nn : Word)
  /-- 0xC6 ADD A,n (R281). -/
  | addA_n (n : Byte)
  /-- 0xCA JP Z,nn (R381). -/
  | jpZ_nn (nn : Word)
  /-- 0xCC CALL Z,nn (R386). -/
  | callZ_nn (nn : Word)
  /-- 0xCD CALL nn (R385). -/
  | call_nn (nn : Word)
  /-- 0xCE ADC A,n (R282). -/
  | adcA_n (n : Byte)
  /-- 0xD2 JP NC,nn (R381). -/
  | jpNC_nn (nn : Word)
  /-- 0xD4 CALL NC,nn (R386). -/
  | callNC_nn (nn : Word)
  /-- 0xD6 SUB n (R283). -/
  | sub_n (n : Byte)
  /-- 0xDA JP C,nn (R381). -/
  | jpC_nn (nn : Word)
  /-- 0xDC CALL C,nn (R386). -/
  | callC_nn (nn : Word)
  /-- 0xDE SBC A,n (R284). -/
  | sbcA_n (n : Byte)
  /-- 0xE0 LDH (n),A (R232). -/
  | ldhAtN_A (n : Byte)
  /-- 0xE6 AND n (R285). -/
  | and_n (n : Byte)
  /-- 0xE8 ADD SP,e (R323). -/
  | addSP_e (e : Byte)
  /-- 0xEA LD (nn),A (R230). -/
  | ldAtNN_A (nn : Word)
  /-- 0xEE XOR n (R286). -/
  | xor_n (n : Byte)
  /-- 0xF0 LDH A,(n) (R231). -/
  | ldhA_atN (n : Byte)
  /-- 0xF6 OR n (R287). -/
  | or_n (n : Byte)
  /-- 0xF8 LD HL,SP+e (R266). -/
  | ldHL_SPe (e : Byte)
  /-- 0xFA LD A,(nn) (R229). -/
  | ldA_atNN (nn : Word)
  /-- 0xFE CP n (R288). -/
  | cp_n (n : Byte)
  -- the primary table (R191): the others
  /-- 0x00 NOP (R410). -/
  | nop
  /-- 0x02 LD (BC),A (R227). -/
  | ldAtBC_A
  /-- 0x03 INC BC (R321). -/
  | incBC
  /-- 0x04 INC B (R289). -/
  | incB
  /-- 0x05 DEC B (R291). -/
  | decB
  /-- 0x07 RLCA (R340). -/
  | rlca
  /-- 0x09 ADD HL,BC (R320). -/
  | addHL_BC
  /-- 0x0A LD A,(BC) (R225). -/
  | ldA_atBC
  /-- 0x0B DEC BC (R322). -/
  | decBC
  /-- 0x0C INC C (R289). -/
  | incC
  /-- 0x0D DEC C (R291). -/
  | decC
  /-- 0x0F RRCA (R341). -/
  | rrca
  /-- 0x12 LD (DE),A (R228). -/
  | ldAtDE_A
  /-- 0x13 INC DE (R321). -/
  | incDE
  /-- 0x14 INC D (R289). -/
  | incD
  /-- 0x15 DEC D (R291). -/
  | decD
  /-- 0x17 RLA (R342). -/
  | rla
  /-- 0x19 ADD HL,DE (R320). -/
  | addHL_DE
  /-- 0x1A LD A,(DE) (R226). -/
  | ldA_atDE
  /-- 0x1B DEC DE (R322). -/
  | decDE
  /-- 0x1C INC E (R289). -/
  | incE
  /-- 0x1D DEC E (R291). -/
  | decE
  /-- 0x1F RRA (R343). -/
  | rra
  /-- 0x22 LD (HL+),A (R235). -/
  | ldAtHLI_A
  /-- 0x23 INC HL (R321). -/
  | incHL
  /-- 0x24 INC H (R289). -/
  | incH
  /-- 0x25 DEC H (R291). -/
  | decH
  /-- 0x27 DAA (R293). -/
  | daa
  /-- 0x29 ADD HL,HL (R320). -/
  | addHL_HL
  /-- 0x2A LD A,(HL+) (R237). -/
  | ldA_atHLI
  /-- 0x2B DEC HL (R322). -/
  | decHL
  /-- 0x2C INC L (R289). -/
  | incL
  /-- 0x2D DEC L (R291). -/
  | decL
  /-- 0x2F CPL (R294). -/
  | cpl
  /-- 0x32 LD (HL-),A (R236). -/
  | ldAtHLD_A
  /-- 0x33 INC SP (R321). -/
  | incSP
  /-- 0x34 INC (HL) (R290). -/
  | incAtHL
  /-- 0x35 DEC (HL) (R292). -/
  | decAtHL
  /-- 0x37 SCF (R295). -/
  | scf
  /-- 0x39 ADD HL,SP (R320). -/
  | addHL_SP
  /-- 0x3A LD A,(HL-) (R238). -/
  | ldA_atHLD
  /-- 0x3B DEC SP (R322). -/
  | decSP
  /-- 0x3C INC A (R289). -/
  | incA
  /-- 0x3D DEC A (R291). -/
  | decA
  /-- 0x3F CCF (R296). -/
  | ccf
  /-- 0x40 LD B,B (R220). -/
  | ldB_B
  /-- 0x41 LD B,C (R220). -/
  | ldB_C
  /-- 0x42 LD B,D (R220). -/
  | ldB_D
  /-- 0x43 LD B,E (R220). -/
  | ldB_E
  /-- 0x44 LD B,H (R220). -/
  | ldB_H
  /-- 0x45 LD B,L (R220). -/
  | ldB_L
  /-- 0x46 LD B,(HL) (R222). -/
  | ldB_atHL
  /-- 0x47 LD B,A (R220). -/
  | ldB_A
  /-- 0x48 LD C,B (R220). -/
  | ldC_B
  /-- 0x49 LD C,C (R220). -/
  | ldC_C
  /-- 0x4A LD C,D (R220). -/
  | ldC_D
  /-- 0x4B LD C,E (R220). -/
  | ldC_E
  /-- 0x4C LD C,H (R220). -/
  | ldC_H
  /-- 0x4D LD C,L (R220). -/
  | ldC_L
  /-- 0x4E LD C,(HL) (R222). -/
  | ldC_atHL
  /-- 0x4F LD C,A (R220). -/
  | ldC_A
  /-- 0x50 LD D,B (R220). -/
  | ldD_B
  /-- 0x51 LD D,C (R220). -/
  | ldD_C
  /-- 0x52 LD D,D (R220). -/
  | ldD_D
  /-- 0x53 LD D,E (R220). -/
  | ldD_E
  /-- 0x54 LD D,H (R220). -/
  | ldD_H
  /-- 0x55 LD D,L (R220). -/
  | ldD_L
  /-- 0x56 LD D,(HL) (R222). -/
  | ldD_atHL
  /-- 0x57 LD D,A (R220). -/
  | ldD_A
  /-- 0x58 LD E,B (R220). -/
  | ldE_B
  /-- 0x59 LD E,C (R220). -/
  | ldE_C
  /-- 0x5A LD E,D (R220). -/
  | ldE_D
  /-- 0x5B LD E,E (R220). -/
  | ldE_E
  /-- 0x5C LD E,H (R220). -/
  | ldE_H
  /-- 0x5D LD E,L (R220). -/
  | ldE_L
  /-- 0x5E LD E,(HL) (R222). -/
  | ldE_atHL
  /-- 0x5F LD E,A (R220). -/
  | ldE_A
  /-- 0x60 LD H,B (R220). -/
  | ldH_B
  /-- 0x61 LD H,C (R220). -/
  | ldH_C
  /-- 0x62 LD H,D (R220). -/
  | ldH_D
  /-- 0x63 LD H,E (R220). -/
  | ldH_E
  /-- 0x64 LD H,H (R220). -/
  | ldH_H
  /-- 0x65 LD H,L (R220). -/
  | ldH_L
  /-- 0x66 LD H,(HL) (R222). -/
  | ldH_atHL
  /-- 0x67 LD H,A (R220). -/
  | ldH_A
  /-- 0x68 LD L,B (R220). -/
  | ldL_B
  /-- 0x69 LD L,C (R220). -/
  | ldL_C
  /-- 0x6A LD L,D (R220). -/
  | ldL_D
  /-- 0x6B LD L,E (R220). -/
  | ldL_E
  /-- 0x6C LD L,H (R220). -/
  | ldL_H
  /-- 0x6D LD L,L (R220). -/
  | ldL_L
  /-- 0x6E LD L,(HL) (R222). -/
  | ldL_atHL
  /-- 0x6F LD L,A (R220). -/
  | ldL_A
  /-- 0x70 LD (HL),B (R223). -/
  | ldAtHL_B
  /-- 0x71 LD (HL),C (R223). -/
  | ldAtHL_C
  /-- 0x72 LD (HL),D (R223). -/
  | ldAtHL_D
  /-- 0x73 LD (HL),E (R223). -/
  | ldAtHL_E
  /-- 0x74 LD (HL),H (R223). -/
  | ldAtHL_H
  /-- 0x75 LD (HL),L (R223). -/
  | ldAtHL_L
  /-- 0x76 HALT (R411). -/
  | halt
  /-- 0x77 LD (HL),A (R223). -/
  | ldAtHL_A
  /-- 0x78 LD A,B (R220). -/
  | ldA_B
  /-- 0x79 LD A,C (R220). -/
  | ldA_C
  /-- 0x7A LD A,D (R220). -/
  | ldA_D
  /-- 0x7B LD A,E (R220). -/
  | ldA_E
  /-- 0x7C LD A,H (R220). -/
  | ldA_H
  /-- 0x7D LD A,L (R220). -/
  | ldA_L
  /-- 0x7E LD A,(HL) (R222). -/
  | ldA_atHL
  /-- 0x7F LD A,A (R220). -/
  | ldA_A
  /-- 0x80 ADD A,B (R281). -/
  | addA_B
  /-- 0x81 ADD A,C (R281). -/
  | addA_C
  /-- 0x82 ADD A,D (R281). -/
  | addA_D
  /-- 0x83 ADD A,E (R281). -/
  | addA_E
  /-- 0x84 ADD A,H (R281). -/
  | addA_H
  /-- 0x85 ADD A,L (R281). -/
  | addA_L
  /-- 0x86 ADD A,(HL) (R281). -/
  | addA_atHL
  /-- 0x87 ADD A,A (R281). -/
  | addA_A
  /-- 0x88 ADC A,B (R282). -/
  | adcA_B
  /-- 0x89 ADC A,C (R282). -/
  | adcA_C
  /-- 0x8A ADC A,D (R282). -/
  | adcA_D
  /-- 0x8B ADC A,E (R282). -/
  | adcA_E
  /-- 0x8C ADC A,H (R282). -/
  | adcA_H
  /-- 0x8D ADC A,L (R282). -/
  | adcA_L
  /-- 0x8E ADC A,(HL) (R282). -/
  | adcA_atHL
  /-- 0x8F ADC A,A (R282). -/
  | adcA_A
  /-- 0x90 SUB B (R283). -/
  | subB
  /-- 0x91 SUB C (R283). -/
  | subC
  /-- 0x92 SUB D (R283). -/
  | subD
  /-- 0x93 SUB E (R283). -/
  | subE
  /-- 0x94 SUB H (R283). -/
  | subH
  /-- 0x95 SUB L (R283). -/
  | subL
  /-- 0x96 SUB (HL) (R283). -/
  | subAtHL
  /-- 0x97 SUB A (R283). -/
  | subA
  /-- 0x98 SBC A,B (R284). -/
  | sbcA_B
  /-- 0x99 SBC A,C (R284). -/
  | sbcA_C
  /-- 0x9A SBC A,D (R284). -/
  | sbcA_D
  /-- 0x9B SBC A,E (R284). -/
  | sbcA_E
  /-- 0x9C SBC A,H (R284). -/
  | sbcA_H
  /-- 0x9D SBC A,L (R284). -/
  | sbcA_L
  /-- 0x9E SBC A,(HL) (R284). -/
  | sbcA_atHL
  /-- 0x9F SBC A,A (R284). -/
  | sbcA_A
  /-- 0xA0 AND B (R285). -/
  | andB
  /-- 0xA1 AND C (R285). -/
  | andC
  /-- 0xA2 AND D (R285). -/
  | andD
  /-- 0xA3 AND E (R285). -/
  | andE
  /-- 0xA4 AND H (R285). -/
  | andH
  /-- 0xA5 AND L (R285). -/
  | andL
  /-- 0xA6 AND (HL) (R285). -/
  | andAtHL
  /-- 0xA7 AND A (R285). -/
  | andA
  /-- 0xA8 XOR B (R286). -/
  | xorB
  /-- 0xA9 XOR C (R286). -/
  | xorC
  /-- 0xAA XOR D (R286). -/
  | xorD
  /-- 0xAB XOR E (R286). -/
  | xorE
  /-- 0xAC XOR H (R286). -/
  | xorH
  /-- 0xAD XOR L (R286). -/
  | xorL
  /-- 0xAE XOR (HL) (R286). -/
  | xorAtHL
  /-- 0xAF XOR A (R286). -/
  | xorA
  /-- 0xB0 OR B (R287). -/
  | orB
  /-- 0xB1 OR C (R287). -/
  | orC
  /-- 0xB2 OR D (R287). -/
  | orD
  /-- 0xB3 OR E (R287). -/
  | orE
  /-- 0xB4 OR H (R287). -/
  | orH
  /-- 0xB5 OR L (R287). -/
  | orL
  /-- 0xB6 OR (HL) (R287). -/
  | orAtHL
  /-- 0xB7 OR A (R287). -/
  | orA
  /-- 0xB8 CP B (R288). -/
  | cpB
  /-- 0xB9 CP C (R288). -/
  | cpC
  /-- 0xBA CP D (R288). -/
  | cpD
  /-- 0xBB CP E (R288). -/
  | cpE
  /-- 0xBC CP H (R288). -/
  | cpH
  /-- 0xBD CP L (R288). -/
  | cpL
  /-- 0xBE CP (HL) (R288). -/
  | cpAtHL
  /-- 0xBF CP A (R288). -/
  | cpA
  /-- 0xC0 RET NZ (R388). -/
  | retNZ
  /-- 0xC1 POP BC (R264). -/
  | popBC
  /-- 0xC5 PUSH BC (R263). -/
  | pushBC
  /-- 0xC7 RST 00h (R390). -/
  | rst00
  /-- 0xC8 RET Z (R388). -/
  | retZ
  /-- 0xC9 RET (R387). -/
  | ret
  /-- 0xCB PREFIX CB (R415). -/
  | prefixCB
  /-- 0xCF RST 08h (R390). -/
  | rst08
  /-- 0xD0 RET NC (R388). -/
  | retNC
  /-- 0xD1 POP DE (R264). -/
  | popDE
  /-- 0xD3 ILLEGAL 0xD3 (R416). -/
  | illegalD3
  /-- 0xD5 PUSH DE (R263). -/
  | pushDE
  /-- 0xD7 RST 10h (R390). -/
  | rst10
  /-- 0xD8 RET C (R388). -/
  | retC
  /-- 0xD9 RETI (R389). -/
  | reti
  /-- 0xDB ILLEGAL 0xDB (R416). -/
  | illegalDB
  /-- 0xDD ILLEGAL 0xDD (R416). -/
  | illegalDD
  /-- 0xDF RST 18h (R390). -/
  | rst18
  /-- 0xE1 POP HL (R264). -/
  | popHL
  /-- 0xE2 LDH (C),A (R234). -/
  | ldhAtC_A
  /-- 0xE3 ILLEGAL 0xE3 (R416). -/
  | illegalE3
  /-- 0xE4 ILLEGAL 0xE4 (R416). -/
  | illegalE4
  /-- 0xE5 PUSH HL (R263). -/
  | pushHL
  /-- 0xE7 RST 20h (R390). -/
  | rst20
  /-- 0xE9 JP HL (R382). -/
  | jpHL
  /-- 0xEB ILLEGAL 0xEB (R416). -/
  | illegalEB
  /-- 0xEC ILLEGAL 0xEC (R416). -/
  | illegalEC
  /-- 0xED ILLEGAL 0xED (R416). -/
  | illegalED
  /-- 0xEF RST 28h (R390). -/
  | rst28
  /-- 0xF1 POP AF (R265). -/
  | popAF
  /-- 0xF2 LDH A,(C) (R233). -/
  | ldhA_atC
  /-- 0xF3 DI (R413). -/
  | di
  /-- 0xF4 ILLEGAL 0xF4 (R416). -/
  | illegalF4
  /-- 0xF5 PUSH AF (R263). -/
  | pushAF
  /-- 0xF7 RST 30h (R390). -/
  | rst30
  /-- 0xF9 LD SP,HL (R262). -/
  | ldSP_HL
  /-- 0xFB EI (R414). -/
  | ei
  /-- 0xFC ILLEGAL 0xFC (R416). -/
  | illegalFC
  /-- 0xFD ILLEGAL 0xFD (R416). -/
  | illegalFD
  /-- 0xFF RST 38h (R390). -/
  | rst38
  -- the extended table, after the prefix byte 0xCB (R192)
  /-- 0xCB 0x00 RLC B (R345). -/
  | rlcB
  /-- 0xCB 0x01 RLC C (R345). -/
  | rlcC
  /-- 0xCB 0x02 RLC D (R345). -/
  | rlcD
  /-- 0xCB 0x03 RLC E (R345). -/
  | rlcE
  /-- 0xCB 0x04 RLC H (R345). -/
  | rlcH
  /-- 0xCB 0x05 RLC L (R345). -/
  | rlcL
  /-- 0xCB 0x06 RLC (HL) (R345). -/
  | rlcAtHL
  /-- 0xCB 0x07 RLC A (R345). -/
  | rlcA
  /-- 0xCB 0x08 RRC B (R346). -/
  | rrcB
  /-- 0xCB 0x09 RRC C (R346). -/
  | rrcC
  /-- 0xCB 0x0A RRC D (R346). -/
  | rrcD
  /-- 0xCB 0x0B RRC E (R346). -/
  | rrcE
  /-- 0xCB 0x0C RRC H (R346). -/
  | rrcH
  /-- 0xCB 0x0D RRC L (R346). -/
  | rrcL
  /-- 0xCB 0x0E RRC (HL) (R346). -/
  | rrcAtHL
  /-- 0xCB 0x0F RRC A (R346). -/
  | rrcA
  /-- 0xCB 0x10 RL B (R347). -/
  | rlB
  /-- 0xCB 0x11 RL C (R347). -/
  | rlC
  /-- 0xCB 0x12 RL D (R347). -/
  | rlD
  /-- 0xCB 0x13 RL E (R347). -/
  | rlE
  /-- 0xCB 0x14 RL H (R347). -/
  | rlH
  /-- 0xCB 0x15 RL L (R347). -/
  | rlL
  /-- 0xCB 0x16 RL (HL) (R347). -/
  | rlAtHL
  /-- 0xCB 0x17 RL A (R347). -/
  | rlA
  /-- 0xCB 0x18 RR B (R348). -/
  | rrB
  /-- 0xCB 0x19 RR C (R348). -/
  | rrC
  /-- 0xCB 0x1A RR D (R348). -/
  | rrD
  /-- 0xCB 0x1B RR E (R348). -/
  | rrE
  /-- 0xCB 0x1C RR H (R348). -/
  | rrH
  /-- 0xCB 0x1D RR L (R348). -/
  | rrL
  /-- 0xCB 0x1E RR (HL) (R348). -/
  | rrAtHL
  /-- 0xCB 0x1F RR A (R348). -/
  | rrA
  /-- 0xCB 0x20 SLA B (R349). -/
  | slaB
  /-- 0xCB 0x21 SLA C (R349). -/
  | slaC
  /-- 0xCB 0x22 SLA D (R349). -/
  | slaD
  /-- 0xCB 0x23 SLA E (R349). -/
  | slaE
  /-- 0xCB 0x24 SLA H (R349). -/
  | slaH
  /-- 0xCB 0x25 SLA L (R349). -/
  | slaL
  /-- 0xCB 0x26 SLA (HL) (R349). -/
  | slaAtHL
  /-- 0xCB 0x27 SLA A (R349). -/
  | slaA
  /-- 0xCB 0x28 SRA B (R350). -/
  | sraB
  /-- 0xCB 0x29 SRA C (R350). -/
  | sraC
  /-- 0xCB 0x2A SRA D (R350). -/
  | sraD
  /-- 0xCB 0x2B SRA E (R350). -/
  | sraE
  /-- 0xCB 0x2C SRA H (R350). -/
  | sraH
  /-- 0xCB 0x2D SRA L (R350). -/
  | sraL
  /-- 0xCB 0x2E SRA (HL) (R350). -/
  | sraAtHL
  /-- 0xCB 0x2F SRA A (R350). -/
  | sraA
  /-- 0xCB 0x30 SWAP B (R351). -/
  | swapB
  /-- 0xCB 0x31 SWAP C (R351). -/
  | swapC
  /-- 0xCB 0x32 SWAP D (R351). -/
  | swapD
  /-- 0xCB 0x33 SWAP E (R351). -/
  | swapE
  /-- 0xCB 0x34 SWAP H (R351). -/
  | swapH
  /-- 0xCB 0x35 SWAP L (R351). -/
  | swapL
  /-- 0xCB 0x36 SWAP (HL) (R351). -/
  | swapAtHL
  /-- 0xCB 0x37 SWAP A (R351). -/
  | swapA
  /-- 0xCB 0x38 SRL B (R352). -/
  | srlB
  /-- 0xCB 0x39 SRL C (R352). -/
  | srlC
  /-- 0xCB 0x3A SRL D (R352). -/
  | srlD
  /-- 0xCB 0x3B SRL E (R352). -/
  | srlE
  /-- 0xCB 0x3C SRL H (R352). -/
  | srlH
  /-- 0xCB 0x3D SRL L (R352). -/
  | srlL
  /-- 0xCB 0x3E SRL (HL) (R352). -/
  | srlAtHL
  /-- 0xCB 0x3F SRL A (R352). -/
  | srlA
  /-- 0xCB 0x40 BIT 0,B (R353). -/
  | bit0_B
  /-- 0xCB 0x41 BIT 0,C (R353). -/
  | bit0_C
  /-- 0xCB 0x42 BIT 0,D (R353). -/
  | bit0_D
  /-- 0xCB 0x43 BIT 0,E (R353). -/
  | bit0_E
  /-- 0xCB 0x44 BIT 0,H (R353). -/
  | bit0_H
  /-- 0xCB 0x45 BIT 0,L (R353). -/
  | bit0_L
  /-- 0xCB 0x46 BIT 0,(HL) (R353). -/
  | bit0_atHL
  /-- 0xCB 0x47 BIT 0,A (R353). -/
  | bit0_A
  /-- 0xCB 0x48 BIT 1,B (R353). -/
  | bit1_B
  /-- 0xCB 0x49 BIT 1,C (R353). -/
  | bit1_C
  /-- 0xCB 0x4A BIT 1,D (R353). -/
  | bit1_D
  /-- 0xCB 0x4B BIT 1,E (R353). -/
  | bit1_E
  /-- 0xCB 0x4C BIT 1,H (R353). -/
  | bit1_H
  /-- 0xCB 0x4D BIT 1,L (R353). -/
  | bit1_L
  /-- 0xCB 0x4E BIT 1,(HL) (R353). -/
  | bit1_atHL
  /-- 0xCB 0x4F BIT 1,A (R353). -/
  | bit1_A
  /-- 0xCB 0x50 BIT 2,B (R353). -/
  | bit2_B
  /-- 0xCB 0x51 BIT 2,C (R353). -/
  | bit2_C
  /-- 0xCB 0x52 BIT 2,D (R353). -/
  | bit2_D
  /-- 0xCB 0x53 BIT 2,E (R353). -/
  | bit2_E
  /-- 0xCB 0x54 BIT 2,H (R353). -/
  | bit2_H
  /-- 0xCB 0x55 BIT 2,L (R353). -/
  | bit2_L
  /-- 0xCB 0x56 BIT 2,(HL) (R353). -/
  | bit2_atHL
  /-- 0xCB 0x57 BIT 2,A (R353). -/
  | bit2_A
  /-- 0xCB 0x58 BIT 3,B (R353). -/
  | bit3_B
  /-- 0xCB 0x59 BIT 3,C (R353). -/
  | bit3_C
  /-- 0xCB 0x5A BIT 3,D (R353). -/
  | bit3_D
  /-- 0xCB 0x5B BIT 3,E (R353). -/
  | bit3_E
  /-- 0xCB 0x5C BIT 3,H (R353). -/
  | bit3_H
  /-- 0xCB 0x5D BIT 3,L (R353). -/
  | bit3_L
  /-- 0xCB 0x5E BIT 3,(HL) (R353). -/
  | bit3_atHL
  /-- 0xCB 0x5F BIT 3,A (R353). -/
  | bit3_A
  /-- 0xCB 0x60 BIT 4,B (R353). -/
  | bit4_B
  /-- 0xCB 0x61 BIT 4,C (R353). -/
  | bit4_C
  /-- 0xCB 0x62 BIT 4,D (R353). -/
  | bit4_D
  /-- 0xCB 0x63 BIT 4,E (R353). -/
  | bit4_E
  /-- 0xCB 0x64 BIT 4,H (R353). -/
  | bit4_H
  /-- 0xCB 0x65 BIT 4,L (R353). -/
  | bit4_L
  /-- 0xCB 0x66 BIT 4,(HL) (R353). -/
  | bit4_atHL
  /-- 0xCB 0x67 BIT 4,A (R353). -/
  | bit4_A
  /-- 0xCB 0x68 BIT 5,B (R353). -/
  | bit5_B
  /-- 0xCB 0x69 BIT 5,C (R353). -/
  | bit5_C
  /-- 0xCB 0x6A BIT 5,D (R353). -/
  | bit5_D
  /-- 0xCB 0x6B BIT 5,E (R353). -/
  | bit5_E
  /-- 0xCB 0x6C BIT 5,H (R353). -/
  | bit5_H
  /-- 0xCB 0x6D BIT 5,L (R353). -/
  | bit5_L
  /-- 0xCB 0x6E BIT 5,(HL) (R353). -/
  | bit5_atHL
  /-- 0xCB 0x6F BIT 5,A (R353). -/
  | bit5_A
  /-- 0xCB 0x70 BIT 6,B (R353). -/
  | bit6_B
  /-- 0xCB 0x71 BIT 6,C (R353). -/
  | bit6_C
  /-- 0xCB 0x72 BIT 6,D (R353). -/
  | bit6_D
  /-- 0xCB 0x73 BIT 6,E (R353). -/
  | bit6_E
  /-- 0xCB 0x74 BIT 6,H (R353). -/
  | bit6_H
  /-- 0xCB 0x75 BIT 6,L (R353). -/
  | bit6_L
  /-- 0xCB 0x76 BIT 6,(HL) (R353). -/
  | bit6_atHL
  /-- 0xCB 0x77 BIT 6,A (R353). -/
  | bit6_A
  /-- 0xCB 0x78 BIT 7,B (R353). -/
  | bit7_B
  /-- 0xCB 0x79 BIT 7,C (R353). -/
  | bit7_C
  /-- 0xCB 0x7A BIT 7,D (R353). -/
  | bit7_D
  /-- 0xCB 0x7B BIT 7,E (R353). -/
  | bit7_E
  /-- 0xCB 0x7C BIT 7,H (R353). -/
  | bit7_H
  /-- 0xCB 0x7D BIT 7,L (R353). -/
  | bit7_L
  /-- 0xCB 0x7E BIT 7,(HL) (R353). -/
  | bit7_atHL
  /-- 0xCB 0x7F BIT 7,A (R353). -/
  | bit7_A
  /-- 0xCB 0x80 RES 0,B (R354). -/
  | res0_B
  /-- 0xCB 0x81 RES 0,C (R354). -/
  | res0_C
  /-- 0xCB 0x82 RES 0,D (R354). -/
  | res0_D
  /-- 0xCB 0x83 RES 0,E (R354). -/
  | res0_E
  /-- 0xCB 0x84 RES 0,H (R354). -/
  | res0_H
  /-- 0xCB 0x85 RES 0,L (R354). -/
  | res0_L
  /-- 0xCB 0x86 RES 0,(HL) (R354). -/
  | res0_atHL
  /-- 0xCB 0x87 RES 0,A (R354). -/
  | res0_A
  /-- 0xCB 0x88 RES 1,B (R354). -/
  | res1_B
  /-- 0xCB 0x89 RES 1,C (R354). -/
  | res1_C
  /-- 0xCB 0x8A RES 1,D (R354). -/
  | res1_D
  /-- 0xCB 0x8B RES 1,E (R354). -/
  | res1_E
  /-- 0xCB 0x8C RES 1,H (R354). -/
  | res1_H
  /-- 0xCB 0x8D RES 1,L (R354). -/
  | res1_L
  /-- 0xCB 0x8E RES 1,(HL) (R354). -/
  | res1_atHL
  /-- 0xCB 0x8F RES 1,A (R354). -/
  | res1_A
  /-- 0xCB 0x90 RES 2,B (R354). -/
  | res2_B
  /-- 0xCB 0x91 RES 2,C (R354). -/
  | res2_C
  /-- 0xCB 0x92 RES 2,D (R354). -/
  | res2_D
  /-- 0xCB 0x93 RES 2,E (R354). -/
  | res2_E
  /-- 0xCB 0x94 RES 2,H (R354). -/
  | res2_H
  /-- 0xCB 0x95 RES 2,L (R354). -/
  | res2_L
  /-- 0xCB 0x96 RES 2,(HL) (R354). -/
  | res2_atHL
  /-- 0xCB 0x97 RES 2,A (R354). -/
  | res2_A
  /-- 0xCB 0x98 RES 3,B (R354). -/
  | res3_B
  /-- 0xCB 0x99 RES 3,C (R354). -/
  | res3_C
  /-- 0xCB 0x9A RES 3,D (R354). -/
  | res3_D
  /-- 0xCB 0x9B RES 3,E (R354). -/
  | res3_E
  /-- 0xCB 0x9C RES 3,H (R354). -/
  | res3_H
  /-- 0xCB 0x9D RES 3,L (R354). -/
  | res3_L
  /-- 0xCB 0x9E RES 3,(HL) (R354). -/
  | res3_atHL
  /-- 0xCB 0x9F RES 3,A (R354). -/
  | res3_A
  /-- 0xCB 0xA0 RES 4,B (R354). -/
  | res4_B
  /-- 0xCB 0xA1 RES 4,C (R354). -/
  | res4_C
  /-- 0xCB 0xA2 RES 4,D (R354). -/
  | res4_D
  /-- 0xCB 0xA3 RES 4,E (R354). -/
  | res4_E
  /-- 0xCB 0xA4 RES 4,H (R354). -/
  | res4_H
  /-- 0xCB 0xA5 RES 4,L (R354). -/
  | res4_L
  /-- 0xCB 0xA6 RES 4,(HL) (R354). -/
  | res4_atHL
  /-- 0xCB 0xA7 RES 4,A (R354). -/
  | res4_A
  /-- 0xCB 0xA8 RES 5,B (R354). -/
  | res5_B
  /-- 0xCB 0xA9 RES 5,C (R354). -/
  | res5_C
  /-- 0xCB 0xAA RES 5,D (R354). -/
  | res5_D
  /-- 0xCB 0xAB RES 5,E (R354). -/
  | res5_E
  /-- 0xCB 0xAC RES 5,H (R354). -/
  | res5_H
  /-- 0xCB 0xAD RES 5,L (R354). -/
  | res5_L
  /-- 0xCB 0xAE RES 5,(HL) (R354). -/
  | res5_atHL
  /-- 0xCB 0xAF RES 5,A (R354). -/
  | res5_A
  /-- 0xCB 0xB0 RES 6,B (R354). -/
  | res6_B
  /-- 0xCB 0xB1 RES 6,C (R354). -/
  | res6_C
  /-- 0xCB 0xB2 RES 6,D (R354). -/
  | res6_D
  /-- 0xCB 0xB3 RES 6,E (R354). -/
  | res6_E
  /-- 0xCB 0xB4 RES 6,H (R354). -/
  | res6_H
  /-- 0xCB 0xB5 RES 6,L (R354). -/
  | res6_L
  /-- 0xCB 0xB6 RES 6,(HL) (R354). -/
  | res6_atHL
  /-- 0xCB 0xB7 RES 6,A (R354). -/
  | res6_A
  /-- 0xCB 0xB8 RES 7,B (R354). -/
  | res7_B
  /-- 0xCB 0xB9 RES 7,C (R354). -/
  | res7_C
  /-- 0xCB 0xBA RES 7,D (R354). -/
  | res7_D
  /-- 0xCB 0xBB RES 7,E (R354). -/
  | res7_E
  /-- 0xCB 0xBC RES 7,H (R354). -/
  | res7_H
  /-- 0xCB 0xBD RES 7,L (R354). -/
  | res7_L
  /-- 0xCB 0xBE RES 7,(HL) (R354). -/
  | res7_atHL
  /-- 0xCB 0xBF RES 7,A (R354). -/
  | res7_A
  /-- 0xCB 0xC0 SET 0,B (R355). -/
  | set0_B
  /-- 0xCB 0xC1 SET 0,C (R355). -/
  | set0_C
  /-- 0xCB 0xC2 SET 0,D (R355). -/
  | set0_D
  /-- 0xCB 0xC3 SET 0,E (R355). -/
  | set0_E
  /-- 0xCB 0xC4 SET 0,H (R355). -/
  | set0_H
  /-- 0xCB 0xC5 SET 0,L (R355). -/
  | set0_L
  /-- 0xCB 0xC6 SET 0,(HL) (R355). -/
  | set0_atHL
  /-- 0xCB 0xC7 SET 0,A (R355). -/
  | set0_A
  /-- 0xCB 0xC8 SET 1,B (R355). -/
  | set1_B
  /-- 0xCB 0xC9 SET 1,C (R355). -/
  | set1_C
  /-- 0xCB 0xCA SET 1,D (R355). -/
  | set1_D
  /-- 0xCB 0xCB SET 1,E (R355). -/
  | set1_E
  /-- 0xCB 0xCC SET 1,H (R355). -/
  | set1_H
  /-- 0xCB 0xCD SET 1,L (R355). -/
  | set1_L
  /-- 0xCB 0xCE SET 1,(HL) (R355). -/
  | set1_atHL
  /-- 0xCB 0xCF SET 1,A (R355). -/
  | set1_A
  /-- 0xCB 0xD0 SET 2,B (R355). -/
  | set2_B
  /-- 0xCB 0xD1 SET 2,C (R355). -/
  | set2_C
  /-- 0xCB 0xD2 SET 2,D (R355). -/
  | set2_D
  /-- 0xCB 0xD3 SET 2,E (R355). -/
  | set2_E
  /-- 0xCB 0xD4 SET 2,H (R355). -/
  | set2_H
  /-- 0xCB 0xD5 SET 2,L (R355). -/
  | set2_L
  /-- 0xCB 0xD6 SET 2,(HL) (R355). -/
  | set2_atHL
  /-- 0xCB 0xD7 SET 2,A (R355). -/
  | set2_A
  /-- 0xCB 0xD8 SET 3,B (R355). -/
  | set3_B
  /-- 0xCB 0xD9 SET 3,C (R355). -/
  | set3_C
  /-- 0xCB 0xDA SET 3,D (R355). -/
  | set3_D
  /-- 0xCB 0xDB SET 3,E (R355). -/
  | set3_E
  /-- 0xCB 0xDC SET 3,H (R355). -/
  | set3_H
  /-- 0xCB 0xDD SET 3,L (R355). -/
  | set3_L
  /-- 0xCB 0xDE SET 3,(HL) (R355). -/
  | set3_atHL
  /-- 0xCB 0xDF SET 3,A (R355). -/
  | set3_A
  /-- 0xCB 0xE0 SET 4,B (R355). -/
  | set4_B
  /-- 0xCB 0xE1 SET 4,C (R355). -/
  | set4_C
  /-- 0xCB 0xE2 SET 4,D (R355). -/
  | set4_D
  /-- 0xCB 0xE3 SET 4,E (R355). -/
  | set4_E
  /-- 0xCB 0xE4 SET 4,H (R355). -/
  | set4_H
  /-- 0xCB 0xE5 SET 4,L (R355). -/
  | set4_L
  /-- 0xCB 0xE6 SET 4,(HL) (R355). -/
  | set4_atHL
  /-- 0xCB 0xE7 SET 4,A (R355). -/
  | set4_A
  /-- 0xCB 0xE8 SET 5,B (R355). -/
  | set5_B
  /-- 0xCB 0xE9 SET 5,C (R355). -/
  | set5_C
  /-- 0xCB 0xEA SET 5,D (R355). -/
  | set5_D
  /-- 0xCB 0xEB SET 5,E (R355). -/
  | set5_E
  /-- 0xCB 0xEC SET 5,H (R355). -/
  | set5_H
  /-- 0xCB 0xED SET 5,L (R355). -/
  | set5_L
  /-- 0xCB 0xEE SET 5,(HL) (R355). -/
  | set5_atHL
  /-- 0xCB 0xEF SET 5,A (R355). -/
  | set5_A
  /-- 0xCB 0xF0 SET 6,B (R355). -/
  | set6_B
  /-- 0xCB 0xF1 SET 6,C (R355). -/
  | set6_C
  /-- 0xCB 0xF2 SET 6,D (R355). -/
  | set6_D
  /-- 0xCB 0xF3 SET 6,E (R355). -/
  | set6_E
  /-- 0xCB 0xF4 SET 6,H (R355). -/
  | set6_H
  /-- 0xCB 0xF5 SET 6,L (R355). -/
  | set6_L
  /-- 0xCB 0xF6 SET 6,(HL) (R355). -/
  | set6_atHL
  /-- 0xCB 0xF7 SET 6,A (R355). -/
  | set6_A
  /-- 0xCB 0xF8 SET 7,B (R355). -/
  | set7_B
  /-- 0xCB 0xF9 SET 7,C (R355). -/
  | set7_C
  /-- 0xCB 0xFA SET 7,D (R355). -/
  | set7_D
  /-- 0xCB 0xFB SET 7,E (R355). -/
  | set7_E
  /-- 0xCB 0xFC SET 7,H (R355). -/
  | set7_H
  /-- 0xCB 0xFD SET 7,L (R355). -/
  | set7_L
  /-- 0xCB 0xFE SET 7,(HL) (R355). -/
  | set7_atHL
  /-- 0xCB 0xFF SET 7,A (R355). -/
  | set7_A
deriving DecidableEq, Repr

end Sys2Proof
end

