-- ==== Sys2Proof/Decode.lean ====
section
/-! DEFINITION. Decoding and encoding (30_encoding.md R180 to R195). The two opcode maps stand as the spec prints them, one list
for each row of R191 and R192. -/

namespace Sys2Proof

/-- A row of the primary map (R191): the instructions of opcodes `hi`0 to `hi`F, with `n` the byte and `nn` the word after the
opcode. -/
def primaryRow (hi : Nat) (n : Byte) (nn : Word) : List Instr :=
  match hi with
  | 0x0 =>
    [.nop, .ldBC_nn nn, .ldAtBC_A, .incBC, .incB, .decB, .ldB_n n, .rlca, .ldAtNN_SP nn, .addHL_BC, .ldA_atBC,
     .decBC, .incC, .decC, .ldC_n n, .rrca]
  | 0x1 =>
    [.stop n, .ldDE_nn nn, .ldAtDE_A, .incDE, .incD, .decD, .ldD_n n, .rla, .jr_e n, .addHL_DE, .ldA_atDE, .decDE,
     .incE, .decE, .ldE_n n, .rra]
  | 0x2 =>
    [.jrNZ_e n, .ldHL_nn nn, .ldAtHLI_A, .incHL, .incH, .decH, .ldH_n n, .daa, .jrZ_e n, .addHL_HL, .ldA_atHLI,
     .decHL, .incL, .decL, .ldL_n n, .cpl]
  | 0x3 =>
    [.jrNC_e n, .ldSP_nn nn, .ldAtHLD_A, .incSP, .incAtHL, .decAtHL, .ldAtHL_n n, .scf, .jrC_e n, .addHL_SP,
     .ldA_atHLD, .decSP, .incA, .decA, .ldA_n n, .ccf]
  | 0x4 =>
    [.ldB_B, .ldB_C, .ldB_D, .ldB_E, .ldB_H, .ldB_L, .ldB_atHL, .ldB_A, .ldC_B, .ldC_C, .ldC_D, .ldC_E, .ldC_H,
     .ldC_L, .ldC_atHL, .ldC_A]
  | 0x5 =>
    [.ldD_B, .ldD_C, .ldD_D, .ldD_E, .ldD_H, .ldD_L, .ldD_atHL, .ldD_A, .ldE_B, .ldE_C, .ldE_D, .ldE_E, .ldE_H,
     .ldE_L, .ldE_atHL, .ldE_A]
  | 0x6 =>
    [.ldH_B, .ldH_C, .ldH_D, .ldH_E, .ldH_H, .ldH_L, .ldH_atHL, .ldH_A, .ldL_B, .ldL_C, .ldL_D, .ldL_E, .ldL_H,
     .ldL_L, .ldL_atHL, .ldL_A]
  | 0x7 =>
    [.ldAtHL_B, .ldAtHL_C, .ldAtHL_D, .ldAtHL_E, .ldAtHL_H, .ldAtHL_L, .halt, .ldAtHL_A, .ldA_B, .ldA_C, .ldA_D,
     .ldA_E, .ldA_H, .ldA_L, .ldA_atHL, .ldA_A]
  | 0x8 =>
    [.addA_B, .addA_C, .addA_D, .addA_E, .addA_H, .addA_L, .addA_atHL, .addA_A, .adcA_B, .adcA_C, .adcA_D, .adcA_E,
     .adcA_H, .adcA_L, .adcA_atHL, .adcA_A]
  | 0x9 =>
    [.subB, .subC, .subD, .subE, .subH, .subL, .subAtHL, .subA, .sbcA_B, .sbcA_C, .sbcA_D, .sbcA_E, .sbcA_H, .sbcA_L,
     .sbcA_atHL, .sbcA_A]
  | 0xA =>
    [.andB, .andC, .andD, .andE, .andH, .andL, .andAtHL, .andA, .xorB, .xorC, .xorD, .xorE, .xorH, .xorL, .xorAtHL,
     .xorA]
  | 0xB =>
    [.orB, .orC, .orD, .orE, .orH, .orL, .orAtHL, .orA, .cpB, .cpC, .cpD, .cpE, .cpH, .cpL, .cpAtHL, .cpA]
  | 0xC =>
    [.retNZ, .popBC, .jpNZ_nn nn, .jp_nn nn, .callNZ_nn nn, .pushBC, .addA_n n, .rst00, .retZ, .ret, .jpZ_nn nn,
     .prefixCB, .callZ_nn nn, .call_nn nn, .adcA_n n, .rst08]
  | 0xD =>
    [.retNC, .popDE, .jpNC_nn nn, .illegalD3, .callNC_nn nn, .pushDE, .sub_n n, .rst10, .retC, .reti, .jpC_nn nn,
     .illegalDB, .callC_nn nn, .illegalDD, .sbcA_n n, .rst18]
  | 0xE =>
    [.ldhAtN_A n, .popHL, .ldhAtC_A, .illegalE3, .illegalE4, .pushHL, .and_n n, .rst20, .addSP_e n, .jpHL,
     .ldAtNN_A nn, .illegalEB, .illegalEC, .illegalED, .xor_n n, .rst28]
  | 0xF =>
    [.ldhA_atN n, .popAF, .ldhA_atC, .di, .illegalF4, .pushAF, .or_n n, .rst30, .ldHL_SPe n, .ldSP_HL, .ldA_atNN nn,
     .ei, .illegalFC, .illegalFD, .cp_n n, .rst38]
  | _ => []

/-- A row of the extended map (R192): the instructions of 0xCB followed by `hi`0 to `hi`F. -/
def extendedRow (hi : Nat) : List Instr :=
  match hi with
  | 0x0 =>
    [.rlcB, .rlcC, .rlcD, .rlcE, .rlcH, .rlcL, .rlcAtHL, .rlcA, .rrcB, .rrcC, .rrcD, .rrcE, .rrcH, .rrcL, .rrcAtHL,
     .rrcA]
  | 0x1 =>
    [.rlB, .rlC, .rlD, .rlE, .rlH, .rlL, .rlAtHL, .rlA, .rrB, .rrC, .rrD, .rrE, .rrH, .rrL, .rrAtHL, .rrA]
  | 0x2 =>
    [.slaB, .slaC, .slaD, .slaE, .slaH, .slaL, .slaAtHL, .slaA, .sraB, .sraC, .sraD, .sraE, .sraH, .sraL, .sraAtHL,
     .sraA]
  | 0x3 =>
    [.swapB, .swapC, .swapD, .swapE, .swapH, .swapL, .swapAtHL, .swapA, .srlB, .srlC, .srlD, .srlE, .srlH, .srlL,
     .srlAtHL, .srlA]
  | 0x4 =>
    [.bit0_B, .bit0_C, .bit0_D, .bit0_E, .bit0_H, .bit0_L, .bit0_atHL, .bit0_A, .bit1_B, .bit1_C, .bit1_D, .bit1_E,
     .bit1_H, .bit1_L, .bit1_atHL, .bit1_A]
  | 0x5 =>
    [.bit2_B, .bit2_C, .bit2_D, .bit2_E, .bit2_H, .bit2_L, .bit2_atHL, .bit2_A, .bit3_B, .bit3_C, .bit3_D, .bit3_E,
     .bit3_H, .bit3_L, .bit3_atHL, .bit3_A]
  | 0x6 =>
    [.bit4_B, .bit4_C, .bit4_D, .bit4_E, .bit4_H, .bit4_L, .bit4_atHL, .bit4_A, .bit5_B, .bit5_C, .bit5_D, .bit5_E,
     .bit5_H, .bit5_L, .bit5_atHL, .bit5_A]
  | 0x7 =>
    [.bit6_B, .bit6_C, .bit6_D, .bit6_E, .bit6_H, .bit6_L, .bit6_atHL, .bit6_A, .bit7_B, .bit7_C, .bit7_D, .bit7_E,
     .bit7_H, .bit7_L, .bit7_atHL, .bit7_A]
  | 0x8 =>
    [.res0_B, .res0_C, .res0_D, .res0_E, .res0_H, .res0_L, .res0_atHL, .res0_A, .res1_B, .res1_C, .res1_D, .res1_E,
     .res1_H, .res1_L, .res1_atHL, .res1_A]
  | 0x9 =>
    [.res2_B, .res2_C, .res2_D, .res2_E, .res2_H, .res2_L, .res2_atHL, .res2_A, .res3_B, .res3_C, .res3_D, .res3_E,
     .res3_H, .res3_L, .res3_atHL, .res3_A]
  | 0xA =>
    [.res4_B, .res4_C, .res4_D, .res4_E, .res4_H, .res4_L, .res4_atHL, .res4_A, .res5_B, .res5_C, .res5_D, .res5_E,
     .res5_H, .res5_L, .res5_atHL, .res5_A]
  | 0xB =>
    [.res6_B, .res6_C, .res6_D, .res6_E, .res6_H, .res6_L, .res6_atHL, .res6_A, .res7_B, .res7_C, .res7_D, .res7_E,
     .res7_H, .res7_L, .res7_atHL, .res7_A]
  | 0xC =>
    [.set0_B, .set0_C, .set0_D, .set0_E, .set0_H, .set0_L, .set0_atHL, .set0_A, .set1_B, .set1_C, .set1_D, .set1_E,
     .set1_H, .set1_L, .set1_atHL, .set1_A]
  | 0xD =>
    [.set2_B, .set2_C, .set2_D, .set2_E, .set2_H, .set2_L, .set2_atHL, .set2_A, .set3_B, .set3_C, .set3_D, .set3_E,
     .set3_H, .set3_L, .set3_atHL, .set3_A]
  | 0xE =>
    [.set4_B, .set4_C, .set4_D, .set4_E, .set4_H, .set4_L, .set4_atHL, .set4_A, .set5_B, .set5_C, .set5_D, .set5_E,
     .set5_H, .set5_L, .set5_atHL, .set5_A]
  | 0xF =>
    [.set6_B, .set6_C, .set6_D, .set6_E, .set6_H, .set6_L, .set6_atHL, .set6_A, .set7_B, .set7_C, .set7_D, .set7_E,
     .set7_H, .set7_L, .set7_atHL, .set7_A]
  | _ => []

/-- The opcodes of three bytes (R180; the table's `len`). -/
def threeByteOpcodes : List Byte :=
   [0x01, 0x08, 0x11, 0x21, 0x31, 0xC2, 0xC3, 0xC4, 0xCA, 0xCC, 0xCD, 0xD2, 0xD4, 0xDA, 0xDC, 0xEA, 0xFA]

/-- The opcodes of two bytes, 0xCB among them: the prefix adds exactly one byte (R180; the table's `len`). -/
def twoByteOpcodes : List Byte :=
   [0x06, 0x0E, 0x10, 0x16, 0x18, 0x1E, 0x20, 0x26, 0x28, 0x2E, 0x30, 0x36, 0x38, 0x3E, 0xC6, 0xCB, 0xCE,
    0xD6, 0xDE, 0xE0, 0xE6, 0xE8, 0xEE, 0xF0, 0xF6, 0xF8, 0xFE]

/-- The length of an instruction, from its first byte alone (R180). -/
def instrLength (op : Byte) : Nat :=
  if op ∈ threeByteOpcodes then 3 else if op ∈ twoByteOpcodes then 2 else 1

/-- The word an instruction holds low byte first (R190). -/
def immediateWord (lo hi : Byte) : Word := hi ++ lo

/-- The extended instruction of the byte after the prefix (R181, R192). -/
def decodeExtended (op2 : Byte) : Instr := (extendedRow (op2.toNat / 16)).getD (op2.toNat % 16) .nop

/-- The instruction whose first byte is `op`, `b1` and `b2` the two bytes after it; it ignores those beyond its length (R181). -/
def decodeBytes (op b1 b2 : Byte) : Instr :=
  if op = 0xCB then decodeExtended b1
  else (primaryRow (op.toNat / 16) b1 (immediateWord b1 b2)).getD (op.toNat % 16) .nop

/-- Why a byte list is no instruction. -/
inductive DecodeError where
  /-- There is no byte. -/
  | noBytes
  /-- The list ends inside the instruction that begins with this opcode. -/
  | truncated (opcode : Byte)
deriving DecidableEq, Repr

/-- Decode the instruction at the head of a byte list, with the bytes after it. Every opcode byte decodes: the 11 illegal ones
to their own constructors (R193), a lone prefix byte to `prefixCB`, which is no whole instruction. -/
def decode (bytes : List Byte) : Except DecodeError (Instr × List Byte) :=
  match bytes with
  | [] => .error .noBytes
  | [op] =>
    if op = 0xCB then .ok (.prefixCB, [])
    else if instrLength op = 1 then .ok (decodeBytes op 0 0, []) else .error (.truncated op)
  | [op, b1] =>
    if instrLength op ≤ 2 then .ok (decodeBytes op b1 0, [b1].drop (instrLength op - 1)) else .error (.truncated op)
  | op :: b1 :: b2 :: rest => .ok (decodeBytes op b1 b2, (b1 :: b2 :: rest).drop (instrLength op - 1))

/-- The low byte of an instruction's word. -/
def immediateLow (nn : Word) : Byte := nn.extractLsb' 0 8

/-- The high byte of an instruction's word. -/
def immediateHigh (nn : Word) : Byte := nn.extractLsb' 8 8

/-- The bytes of an instruction, lowest address first (R180 and each row's encoding in spec/opcode_table.json). -/
def encode (i : Instr) : List Byte :=
  match i with
  | .nop => [0x00]
  | .ldBC_nn nn => [0x01, immediateLow nn, immediateHigh nn]
  | .ldAtBC_A => [0x02]
  | .incBC => [0x03]
  | .incB => [0x04]
  | .decB => [0x05]
  | .ldB_n n => [0x06, n]
  | .rlca => [0x07]
  | .ldAtNN_SP nn => [0x08, immediateLow nn, immediateHigh nn]
  | .addHL_BC => [0x09]
  | .ldA_atBC => [0x0A]
  | .decBC => [0x0B]
  | .incC => [0x0C]
  | .decC => [0x0D]
  | .ldC_n n => [0x0E, n]
  | .rrca => [0x0F]
  | .stop n => [0x10, n]
  | .ldDE_nn nn => [0x11, immediateLow nn, immediateHigh nn]
  | .ldAtDE_A => [0x12]
  | .incDE => [0x13]
  | .incD => [0x14]
  | .decD => [0x15]
  | .ldD_n n => [0x16, n]
  | .rla => [0x17]
  | .jr_e e => [0x18, e]
  | .addHL_DE => [0x19]
  | .ldA_atDE => [0x1A]
  | .decDE => [0x1B]
  | .incE => [0x1C]
  | .decE => [0x1D]
  | .ldE_n n => [0x1E, n]
  | .rra => [0x1F]
  | .jrNZ_e e => [0x20, e]
  | .ldHL_nn nn => [0x21, immediateLow nn, immediateHigh nn]
  | .ldAtHLI_A => [0x22]
  | .incHL => [0x23]
  | .incH => [0x24]
  | .decH => [0x25]
  | .ldH_n n => [0x26, n]
  | .daa => [0x27]
  | .jrZ_e e => [0x28, e]
  | .addHL_HL => [0x29]
  | .ldA_atHLI => [0x2A]
  | .decHL => [0x2B]
  | .incL => [0x2C]
  | .decL => [0x2D]
  | .ldL_n n => [0x2E, n]
  | .cpl => [0x2F]
  | .jrNC_e e => [0x30, e]
  | .ldSP_nn nn => [0x31, immediateLow nn, immediateHigh nn]
  | .ldAtHLD_A => [0x32]
  | .incSP => [0x33]
  | .incAtHL => [0x34]
  | .decAtHL => [0x35]
  | .ldAtHL_n n => [0x36, n]
  | .scf => [0x37]
  | .jrC_e e => [0x38, e]
  | .addHL_SP => [0x39]
  | .ldA_atHLD => [0x3A]
  | .decSP => [0x3B]
  | .incA => [0x3C]
  | .decA => [0x3D]
  | .ldA_n n => [0x3E, n]
  | .ccf => [0x3F]
  | .ldB_B => [0x40]
  | .ldB_C => [0x41]
  | .ldB_D => [0x42]
  | .ldB_E => [0x43]
  | .ldB_H => [0x44]
  | .ldB_L => [0x45]
  | .ldB_atHL => [0x46]
  | .ldB_A => [0x47]
  | .ldC_B => [0x48]
  | .ldC_C => [0x49]
  | .ldC_D => [0x4A]
  | .ldC_E => [0x4B]
  | .ldC_H => [0x4C]
  | .ldC_L => [0x4D]
  | .ldC_atHL => [0x4E]
  | .ldC_A => [0x4F]
  | .ldD_B => [0x50]
  | .ldD_C => [0x51]
  | .ldD_D => [0x52]
  | .ldD_E => [0x53]
  | .ldD_H => [0x54]
  | .ldD_L => [0x55]
  | .ldD_atHL => [0x56]
  | .ldD_A => [0x57]
  | .ldE_B => [0x58]
  | .ldE_C => [0x59]
  | .ldE_D => [0x5A]
  | .ldE_E => [0x5B]
  | .ldE_H => [0x5C]
  | .ldE_L => [0x5D]
  | .ldE_atHL => [0x5E]
  | .ldE_A => [0x5F]
  | .ldH_B => [0x60]
  | .ldH_C => [0x61]
  | .ldH_D => [0x62]
  | .ldH_E => [0x63]
  | .ldH_H => [0x64]
  | .ldH_L => [0x65]
  | .ldH_atHL => [0x66]
  | .ldH_A => [0x67]
  | .ldL_B => [0x68]
  | .ldL_C => [0x69]
  | .ldL_D => [0x6A]
  | .ldL_E => [0x6B]
  | .ldL_H => [0x6C]
  | .ldL_L => [0x6D]
  | .ldL_atHL => [0x6E]
  | .ldL_A => [0x6F]
  | .ldAtHL_B => [0x70]
  | .ldAtHL_C => [0x71]
  | .ldAtHL_D => [0x72]
  | .ldAtHL_E => [0x73]
  | .ldAtHL_H => [0x74]
  | .ldAtHL_L => [0x75]
  | .halt => [0x76]
  | .ldAtHL_A => [0x77]
  | .ldA_B => [0x78]
  | .ldA_C => [0x79]
  | .ldA_D => [0x7A]
  | .ldA_E => [0x7B]
  | .ldA_H => [0x7C]
  | .ldA_L => [0x7D]
  | .ldA_atHL => [0x7E]
  | .ldA_A => [0x7F]
  | .addA_B => [0x80]
  | .addA_C => [0x81]
  | .addA_D => [0x82]
  | .addA_E => [0x83]
  | .addA_H => [0x84]
  | .addA_L => [0x85]
  | .addA_atHL => [0x86]
  | .addA_A => [0x87]
  | .adcA_B => [0x88]
  | .adcA_C => [0x89]
  | .adcA_D => [0x8A]
  | .adcA_E => [0x8B]
  | .adcA_H => [0x8C]
  | .adcA_L => [0x8D]
  | .adcA_atHL => [0x8E]
  | .adcA_A => [0x8F]
  | .subB => [0x90]
  | .subC => [0x91]
  | .subD => [0x92]
  | .subE => [0x93]
  | .subH => [0x94]
  | .subL => [0x95]
  | .subAtHL => [0x96]
  | .subA => [0x97]
  | .sbcA_B => [0x98]
  | .sbcA_C => [0x99]
  | .sbcA_D => [0x9A]
  | .sbcA_E => [0x9B]
  | .sbcA_H => [0x9C]
  | .sbcA_L => [0x9D]
  | .sbcA_atHL => [0x9E]
  | .sbcA_A => [0x9F]
  | .andB => [0xA0]
  | .andC => [0xA1]
  | .andD => [0xA2]
  | .andE => [0xA3]
  | .andH => [0xA4]
  | .andL => [0xA5]
  | .andAtHL => [0xA6]
  | .andA => [0xA7]
  | .xorB => [0xA8]
  | .xorC => [0xA9]
  | .xorD => [0xAA]
  | .xorE => [0xAB]
  | .xorH => [0xAC]
  | .xorL => [0xAD]
  | .xorAtHL => [0xAE]
  | .xorA => [0xAF]
  | .orB => [0xB0]
  | .orC => [0xB1]
  | .orD => [0xB2]
  | .orE => [0xB3]
  | .orH => [0xB4]
  | .orL => [0xB5]
  | .orAtHL => [0xB6]
  | .orA => [0xB7]
  | .cpB => [0xB8]
  | .cpC => [0xB9]
  | .cpD => [0xBA]
  | .cpE => [0xBB]
  | .cpH => [0xBC]
  | .cpL => [0xBD]
  | .cpAtHL => [0xBE]
  | .cpA => [0xBF]
  | .retNZ => [0xC0]
  | .popBC => [0xC1]
  | .jpNZ_nn nn => [0xC2, immediateLow nn, immediateHigh nn]
  | .jp_nn nn => [0xC3, immediateLow nn, immediateHigh nn]
  | .callNZ_nn nn => [0xC4, immediateLow nn, immediateHigh nn]
  | .pushBC => [0xC5]
  | .addA_n n => [0xC6, n]
  | .rst00 => [0xC7]
  | .retZ => [0xC8]
  | .ret => [0xC9]
  | .jpZ_nn nn => [0xCA, immediateLow nn, immediateHigh nn]
  | .prefixCB => [0xCB]
  | .callZ_nn nn => [0xCC, immediateLow nn, immediateHigh nn]
  | .call_nn nn => [0xCD, immediateLow nn, immediateHigh nn]
  | .adcA_n n => [0xCE, n]
  | .rst08 => [0xCF]
  | .retNC => [0xD0]
  | .popDE => [0xD1]
  | .jpNC_nn nn => [0xD2, immediateLow nn, immediateHigh nn]
  | .illegalD3 => [0xD3]
  | .callNC_nn nn => [0xD4, immediateLow nn, immediateHigh nn]
  | .pushDE => [0xD5]
  | .sub_n n => [0xD6, n]
  | .rst10 => [0xD7]
  | .retC => [0xD8]
  | .reti => [0xD9]
  | .jpC_nn nn => [0xDA, immediateLow nn, immediateHigh nn]
  | .illegalDB => [0xDB]
  | .callC_nn nn => [0xDC, immediateLow nn, immediateHigh nn]
  | .illegalDD => [0xDD]
  | .sbcA_n n => [0xDE, n]
  | .rst18 => [0xDF]
  | .ldhAtN_A n => [0xE0, n]
  | .popHL => [0xE1]
  | .ldhAtC_A => [0xE2]
  | .illegalE3 => [0xE3]
  | .illegalE4 => [0xE4]
  | .pushHL => [0xE5]
  | .and_n n => [0xE6, n]
  | .rst20 => [0xE7]
  | .addSP_e e => [0xE8, e]
  | .jpHL => [0xE9]
  | .ldAtNN_A nn => [0xEA, immediateLow nn, immediateHigh nn]
  | .illegalEB => [0xEB]
  | .illegalEC => [0xEC]
  | .illegalED => [0xED]
  | .xor_n n => [0xEE, n]
  | .rst28 => [0xEF]
  | .ldhA_atN n => [0xF0, n]
  | .popAF => [0xF1]
  | .ldhA_atC => [0xF2]
  | .di => [0xF3]
  | .illegalF4 => [0xF4]
  | .pushAF => [0xF5]
  | .or_n n => [0xF6, n]
  | .rst30 => [0xF7]
  | .ldHL_SPe e => [0xF8, e]
  | .ldSP_HL => [0xF9]
  | .ldA_atNN nn => [0xFA, immediateLow nn, immediateHigh nn]
  | .ei => [0xFB]
  | .illegalFC => [0xFC]
  | .illegalFD => [0xFD]
  | .cp_n n => [0xFE, n]
  | .rst38 => [0xFF]
  | .rlcB => [0xCB, 0x00]
  | .rlcC => [0xCB, 0x01]
  | .rlcD => [0xCB, 0x02]
  | .rlcE => [0xCB, 0x03]
  | .rlcH => [0xCB, 0x04]
  | .rlcL => [0xCB, 0x05]
  | .rlcAtHL => [0xCB, 0x06]
  | .rlcA => [0xCB, 0x07]
  | .rrcB => [0xCB, 0x08]
  | .rrcC => [0xCB, 0x09]
  | .rrcD => [0xCB, 0x0A]
  | .rrcE => [0xCB, 0x0B]
  | .rrcH => [0xCB, 0x0C]
  | .rrcL => [0xCB, 0x0D]
  | .rrcAtHL => [0xCB, 0x0E]
  | .rrcA => [0xCB, 0x0F]
  | .rlB => [0xCB, 0x10]
  | .rlC => [0xCB, 0x11]
  | .rlD => [0xCB, 0x12]
  | .rlE => [0xCB, 0x13]
  | .rlH => [0xCB, 0x14]
  | .rlL => [0xCB, 0x15]
  | .rlAtHL => [0xCB, 0x16]
  | .rlA => [0xCB, 0x17]
  | .rrB => [0xCB, 0x18]
  | .rrC => [0xCB, 0x19]
  | .rrD => [0xCB, 0x1A]
  | .rrE => [0xCB, 0x1B]
  | .rrH => [0xCB, 0x1C]
  | .rrL => [0xCB, 0x1D]
  | .rrAtHL => [0xCB, 0x1E]
  | .rrA => [0xCB, 0x1F]
  | .slaB => [0xCB, 0x20]
  | .slaC => [0xCB, 0x21]
  | .slaD => [0xCB, 0x22]
  | .slaE => [0xCB, 0x23]
  | .slaH => [0xCB, 0x24]
  | .slaL => [0xCB, 0x25]
  | .slaAtHL => [0xCB, 0x26]
  | .slaA => [0xCB, 0x27]
  | .sraB => [0xCB, 0x28]
  | .sraC => [0xCB, 0x29]
  | .sraD => [0xCB, 0x2A]
  | .sraE => [0xCB, 0x2B]
  | .sraH => [0xCB, 0x2C]
  | .sraL => [0xCB, 0x2D]
  | .sraAtHL => [0xCB, 0x2E]
  | .sraA => [0xCB, 0x2F]
  | .swapB => [0xCB, 0x30]
  | .swapC => [0xCB, 0x31]
  | .swapD => [0xCB, 0x32]
  | .swapE => [0xCB, 0x33]
  | .swapH => [0xCB, 0x34]
  | .swapL => [0xCB, 0x35]
  | .swapAtHL => [0xCB, 0x36]
  | .swapA => [0xCB, 0x37]
  | .srlB => [0xCB, 0x38]
  | .srlC => [0xCB, 0x39]
  | .srlD => [0xCB, 0x3A]
  | .srlE => [0xCB, 0x3B]
  | .srlH => [0xCB, 0x3C]
  | .srlL => [0xCB, 0x3D]
  | .srlAtHL => [0xCB, 0x3E]
  | .srlA => [0xCB, 0x3F]
  | .bit0_B => [0xCB, 0x40]
  | .bit0_C => [0xCB, 0x41]
  | .bit0_D => [0xCB, 0x42]
  | .bit0_E => [0xCB, 0x43]
  | .bit0_H => [0xCB, 0x44]
  | .bit0_L => [0xCB, 0x45]
  | .bit0_atHL => [0xCB, 0x46]
  | .bit0_A => [0xCB, 0x47]
  | .bit1_B => [0xCB, 0x48]
  | .bit1_C => [0xCB, 0x49]
  | .bit1_D => [0xCB, 0x4A]
  | .bit1_E => [0xCB, 0x4B]
  | .bit1_H => [0xCB, 0x4C]
  | .bit1_L => [0xCB, 0x4D]
  | .bit1_atHL => [0xCB, 0x4E]
  | .bit1_A => [0xCB, 0x4F]
  | .bit2_B => [0xCB, 0x50]
  | .bit2_C => [0xCB, 0x51]
  | .bit2_D => [0xCB, 0x52]
  | .bit2_E => [0xCB, 0x53]
  | .bit2_H => [0xCB, 0x54]
  | .bit2_L => [0xCB, 0x55]
  | .bit2_atHL => [0xCB, 0x56]
  | .bit2_A => [0xCB, 0x57]
  | .bit3_B => [0xCB, 0x58]
  | .bit3_C => [0xCB, 0x59]
  | .bit3_D => [0xCB, 0x5A]
  | .bit3_E => [0xCB, 0x5B]
  | .bit3_H => [0xCB, 0x5C]
  | .bit3_L => [0xCB, 0x5D]
  | .bit3_atHL => [0xCB, 0x5E]
  | .bit3_A => [0xCB, 0x5F]
  | .bit4_B => [0xCB, 0x60]
  | .bit4_C => [0xCB, 0x61]
  | .bit4_D => [0xCB, 0x62]
  | .bit4_E => [0xCB, 0x63]
  | .bit4_H => [0xCB, 0x64]
  | .bit4_L => [0xCB, 0x65]
  | .bit4_atHL => [0xCB, 0x66]
  | .bit4_A => [0xCB, 0x67]
  | .bit5_B => [0xCB, 0x68]
  | .bit5_C => [0xCB, 0x69]
  | .bit5_D => [0xCB, 0x6A]
  | .bit5_E => [0xCB, 0x6B]
  | .bit5_H => [0xCB, 0x6C]
  | .bit5_L => [0xCB, 0x6D]
  | .bit5_atHL => [0xCB, 0x6E]
  | .bit5_A => [0xCB, 0x6F]
  | .bit6_B => [0xCB, 0x70]
  | .bit6_C => [0xCB, 0x71]
  | .bit6_D => [0xCB, 0x72]
  | .bit6_E => [0xCB, 0x73]
  | .bit6_H => [0xCB, 0x74]
  | .bit6_L => [0xCB, 0x75]
  | .bit6_atHL => [0xCB, 0x76]
  | .bit6_A => [0xCB, 0x77]
  | .bit7_B => [0xCB, 0x78]
  | .bit7_C => [0xCB, 0x79]
  | .bit7_D => [0xCB, 0x7A]
  | .bit7_E => [0xCB, 0x7B]
  | .bit7_H => [0xCB, 0x7C]
  | .bit7_L => [0xCB, 0x7D]
  | .bit7_atHL => [0xCB, 0x7E]
  | .bit7_A => [0xCB, 0x7F]
  | .res0_B => [0xCB, 0x80]
  | .res0_C => [0xCB, 0x81]
  | .res0_D => [0xCB, 0x82]
  | .res0_E => [0xCB, 0x83]
  | .res0_H => [0xCB, 0x84]
  | .res0_L => [0xCB, 0x85]
  | .res0_atHL => [0xCB, 0x86]
  | .res0_A => [0xCB, 0x87]
  | .res1_B => [0xCB, 0x88]
  | .res1_C => [0xCB, 0x89]
  | .res1_D => [0xCB, 0x8A]
  | .res1_E => [0xCB, 0x8B]
  | .res1_H => [0xCB, 0x8C]
  | .res1_L => [0xCB, 0x8D]
  | .res1_atHL => [0xCB, 0x8E]
  | .res1_A => [0xCB, 0x8F]
  | .res2_B => [0xCB, 0x90]
  | .res2_C => [0xCB, 0x91]
  | .res2_D => [0xCB, 0x92]
  | .res2_E => [0xCB, 0x93]
  | .res2_H => [0xCB, 0x94]
  | .res2_L => [0xCB, 0x95]
  | .res2_atHL => [0xCB, 0x96]
  | .res2_A => [0xCB, 0x97]
  | .res3_B => [0xCB, 0x98]
  | .res3_C => [0xCB, 0x99]
  | .res3_D => [0xCB, 0x9A]
  | .res3_E => [0xCB, 0x9B]
  | .res3_H => [0xCB, 0x9C]
  | .res3_L => [0xCB, 0x9D]
  | .res3_atHL => [0xCB, 0x9E]
  | .res3_A => [0xCB, 0x9F]
  | .res4_B => [0xCB, 0xA0]
  | .res4_C => [0xCB, 0xA1]
  | .res4_D => [0xCB, 0xA2]
  | .res4_E => [0xCB, 0xA3]
  | .res4_H => [0xCB, 0xA4]
  | .res4_L => [0xCB, 0xA5]
  | .res4_atHL => [0xCB, 0xA6]
  | .res4_A => [0xCB, 0xA7]
  | .res5_B => [0xCB, 0xA8]
  | .res5_C => [0xCB, 0xA9]
  | .res5_D => [0xCB, 0xAA]
  | .res5_E => [0xCB, 0xAB]
  | .res5_H => [0xCB, 0xAC]
  | .res5_L => [0xCB, 0xAD]
  | .res5_atHL => [0xCB, 0xAE]
  | .res5_A => [0xCB, 0xAF]
  | .res6_B => [0xCB, 0xB0]
  | .res6_C => [0xCB, 0xB1]
  | .res6_D => [0xCB, 0xB2]
  | .res6_E => [0xCB, 0xB3]
  | .res6_H => [0xCB, 0xB4]
  | .res6_L => [0xCB, 0xB5]
  | .res6_atHL => [0xCB, 0xB6]
  | .res6_A => [0xCB, 0xB7]
  | .res7_B => [0xCB, 0xB8]
  | .res7_C => [0xCB, 0xB9]
  | .res7_D => [0xCB, 0xBA]
  | .res7_E => [0xCB, 0xBB]
  | .res7_H => [0xCB, 0xBC]
  | .res7_L => [0xCB, 0xBD]
  | .res7_atHL => [0xCB, 0xBE]
  | .res7_A => [0xCB, 0xBF]
  | .set0_B => [0xCB, 0xC0]
  | .set0_C => [0xCB, 0xC1]
  | .set0_D => [0xCB, 0xC2]
  | .set0_E => [0xCB, 0xC3]
  | .set0_H => [0xCB, 0xC4]
  | .set0_L => [0xCB, 0xC5]
  | .set0_atHL => [0xCB, 0xC6]
  | .set0_A => [0xCB, 0xC7]
  | .set1_B => [0xCB, 0xC8]
  | .set1_C => [0xCB, 0xC9]
  | .set1_D => [0xCB, 0xCA]
  | .set1_E => [0xCB, 0xCB]
  | .set1_H => [0xCB, 0xCC]
  | .set1_L => [0xCB, 0xCD]
  | .set1_atHL => [0xCB, 0xCE]
  | .set1_A => [0xCB, 0xCF]
  | .set2_B => [0xCB, 0xD0]
  | .set2_C => [0xCB, 0xD1]
  | .set2_D => [0xCB, 0xD2]
  | .set2_E => [0xCB, 0xD3]
  | .set2_H => [0xCB, 0xD4]
  | .set2_L => [0xCB, 0xD5]
  | .set2_atHL => [0xCB, 0xD6]
  | .set2_A => [0xCB, 0xD7]
  | .set3_B => [0xCB, 0xD8]
  | .set3_C => [0xCB, 0xD9]
  | .set3_D => [0xCB, 0xDA]
  | .set3_E => [0xCB, 0xDB]
  | .set3_H => [0xCB, 0xDC]
  | .set3_L => [0xCB, 0xDD]
  | .set3_atHL => [0xCB, 0xDE]
  | .set3_A => [0xCB, 0xDF]
  | .set4_B => [0xCB, 0xE0]
  | .set4_C => [0xCB, 0xE1]
  | .set4_D => [0xCB, 0xE2]
  | .set4_E => [0xCB, 0xE3]
  | .set4_H => [0xCB, 0xE4]
  | .set4_L => [0xCB, 0xE5]
  | .set4_atHL => [0xCB, 0xE6]
  | .set4_A => [0xCB, 0xE7]
  | .set5_B => [0xCB, 0xE8]
  | .set5_C => [0xCB, 0xE9]
  | .set5_D => [0xCB, 0xEA]
  | .set5_E => [0xCB, 0xEB]
  | .set5_H => [0xCB, 0xEC]
  | .set5_L => [0xCB, 0xED]
  | .set5_atHL => [0xCB, 0xEE]
  | .set5_A => [0xCB, 0xEF]
  | .set6_B => [0xCB, 0xF0]
  | .set6_C => [0xCB, 0xF1]
  | .set6_D => [0xCB, 0xF2]
  | .set6_E => [0xCB, 0xF3]
  | .set6_H => [0xCB, 0xF4]
  | .set6_L => [0xCB, 0xF5]
  | .set6_atHL => [0xCB, 0xF6]
  | .set6_A => [0xCB, 0xF7]
  | .set7_B => [0xCB, 0xF8]
  | .set7_C => [0xCB, 0xF9]
  | .set7_D => [0xCB, 0xFA]
  | .set7_E => [0xCB, 0xFB]
  | .set7_H => [0xCB, 0xFC]
  | .set7_L => [0xCB, 0xFD]
  | .set7_atHL => [0xCB, 0xFE]
  | .set7_A => [0xCB, 0xFF]

/-! ### Fields of an extended opcode (R182, R188) -/

/-- An `r8` field (R182). -/
def r8OfBits (v : BitVec 3) : R8 :=
  if v = 0 then .reg .b
  else if v = 1 then .reg .c
  else if v = 2 then .reg .d
  else if v = 3 then .reg .e
  else if v = 4 then .reg .h
  else if v = 5 then .reg .l
  else if v = 6 then .atHL
  else .reg .a

/-- The rotate or shift of field `y` with g = 0 (R188). -/
def rotOpOfBits (v : BitVec 3) : RotOp :=
  if v = 0 then .rlc
  else if v = 1 then .rrc
  else if v = 2 then .rl
  else if v = 3 then .rr
  else if v = 4 then .sla
  else if v = 5 then .sra
  else if v = 6 then .swap
  else .srl

/-! ### The field codes (R182 to R188) -/

/-- The code of an `r8` operand (R182). -/
def r8Bits : R8 → BitVec 3
  | .reg .b => 0
  | .reg .c => 1
  | .reg .d => 2
  | .reg .e => 3
  | .reg .h => 4
  | .reg .l => 5
  | .atHL => 6
  | .reg .a => 7

/-- The code of an `rr` pair (R183). -/
def pairBits : Pair → BitVec 2
  | .bc => 0
  | .de => 1
  | .hl => 2
  | .sp => 3

/-- The code of an `rr_stk` pair (R184). -/
def stackPairBits : StackPair → BitVec 2
  | .bc => 0
  | .de => 1
  | .hl => 2
  | .af => 3

/-- The code of an `rr_mem` address (R185). -/
def memPairBits : MemPair → BitVec 2
  | .bc => 0
  | .de => 1
  | .hlInc => 2
  | .hlDec => 3

/-- The code of a condition (R186). -/
def condBits : Cond → BitVec 2
  | .nz => 0
  | .z => 1
  | .nc => 2
  | .c => 3

/-- The code of an ALU operation (R187). -/
def aluBits : AluOp → BitVec 3
  | .add => 0
  | .adc => 1
  | .sub => 2
  | .sbc => 3
  | .and => 4
  | .xor => 5
  | .or => 6
  | .cp => 7

/-- The code of a rotate or shift (R188). -/
def rotBits : RotOp → BitVec 3
  | .rlc => 0
  | .rrc => 1
  | .rl => 2
  | .rr => 3
  | .sla => 4
  | .sra => 5
  | .swap => 6
  | .srl => 7

/-! ### The table's words -/

/-- The bytes of an instruction whose bits the opcode table numbers `w`, zeros in every byte the table gives no bits. The table
gives 16 bits to the extended rows alone and writes them with the prefix byte 0xCB in bits 15 to 8 (match 0xCB00); such a word
is taken so. Any other word has its first byte in bits 7 to 0 and its second in bits 15 to 8. DESIGN CHOICE (log entry
8), safe. -/
def tableBytes (nbits w : Nat) : List Byte :=
  if nbits = 16 ∧ w / 256 % 256 = 0xCB then [0xCB, BitVec.ofNat 8 w, 0]
  else
    [BitVec.ofNat 8 w, if 8 < nbits then BitVec.ofNat 8 (w / 256) else 0, if 16 < nbits then BitVec.ofNat 8 (w / 65536) else 0]

/-- The instruction the decoder reads from a table word. The row of the prefix byte alone has 8 bits and length 1: it is the lone
prefix byte. -/
def decodeTableWord (nbits w : Nat) : Option Instr :=
  let bytes := tableBytes nbits w
  let whole := if nbits ≤ 8 ∧ bytes.head? = some 0xCB then bytes.take 1 else bytes
  match decode whole with
  | .ok (i, _) => some i
  | .error _ => none

end Sys2Proof
end

