-- ==== Sys2Proof/Machine/RotateShiftBit.lean ====
section
/-! DEFINITION. Rotates, shifts and bit operations (44_rotate_shift_bit.md R340 to R355) and the prefix (46_system.md R415): the
shared operations, then one meaning for each instruction. -/

namespace Sys2Proof.Machine

/-- RLCA, RRCA, RLA and RRA (R340 to R343). -/
def rotateA (op : RotOp) (s : State) : Host.Outcome State Fault Refusal :=
  let r := rotate8 op s.regs.a s.flags.c
  finish 4 (.ok () ((s.setReg .a r.1).setFlags (rotateAFlags r)))

/-- A rotate, shift or SWAP of an r8 operand: one read, one write, then the flags (R344 to R352, R198). -/
def rotateR8 (op : RotOp) (k : R8) (s : State) : Host.Outcome State Fault Refusal :=
  finish (costR8 k 8 16) ((readR8 s k).bind fun v t =>
    let r := rotate8 op v t.flags.c
    (writeR8 t k r.1).bind fun _ u => .ok () (u.setFlags (rotateFlags r)))

/-- BIT b,r8 (R353). -/
def bitR8 (b : BitVec 3) (k : R8) (s : State) : Host.Outcome State Fault Refusal :=
  finish (costR8 k 8 12) ((readR8 s k).bind fun v t => .ok () (t.setFlags (bitFlags v b t.flags)))

/-- RES b,r8 (R354). -/
def resR8 (b : BitVec 3) (k : R8) (s : State) : Host.Outcome State Fault Refusal :=
  finish (costR8 k 8 16) ((readR8 s k).bind fun v t => writeR8 t k (resBit v b))

/-- SET b,r8 (R355). -/
def setR8 (b : BitVec 3) (k : R8) (s : State) : Host.Outcome State Fault Refusal :=
  finish (costR8 k 8 16) ((readR8 s k).bind fun v t => writeR8 t k (setBit v b))

/-- The extended instruction of `op2` by its fields g, y and r (30_encoding.md R188). -/
def extended (op2 : Byte) (s : State) : Host.Outcome State Fault Refusal :=
  let g := op2.extractLsb' 6 2
  let y := op2.extractLsb' 3 3
  let r := r8OfBits (op2.extractLsb' 0 3)
  if g = 0 then rotateR8 (rotOpOfBits y) r s
  else if g = 1 then bitR8 y r s
  else if g = 2 then resR8 y r s
  else setR8 y r s

/-- PREFIX CB: pc stands past the prefix byte; the second byte is fetched and the extended instruction it selects runs, whose
cost includes the prefix (R415, 30_encoding.md R181). -/
def prefixed (s : State) : Host.Outcome State Fault Refusal :=
  match fetch8 s with
  | .ok op2 t => extended op2 t
  | .error e t => .next (t.raise e)

/-- 0x07 RLCA (R340). -/
def execRlca (s : State) : Host.Outcome State Fault Refusal := rotateA .rlc s

/-- 0x0F RRCA (R341). -/
def execRrca (s : State) : Host.Outcome State Fault Refusal := rotateA .rrc s

/-- 0x17 RLA (R342). -/
def execRla (s : State) : Host.Outcome State Fault Refusal := rotateA .rl s

/-- 0x1F RRA (R343). -/
def execRra (s : State) : Host.Outcome State Fault Refusal := rotateA .rr s

/-- 0xCB PREFIX CB (R415); no fetch decodes to it: DEDUCED (log entry 9), safe. -/
def execPrefixCB (s : State) : Host.Outcome State Fault Refusal := prefixed s

/-- 0xCB 0x00 RLC B (R345). -/
def execRlcB (s : State) : Host.Outcome State Fault Refusal := rotateR8 .rlc (.reg .b) s

/-- 0xCB 0x01 RLC C (R345). -/
def execRlcC (s : State) : Host.Outcome State Fault Refusal := rotateR8 .rlc (.reg .c) s

/-- 0xCB 0x02 RLC D (R345). -/
def execRlcD (s : State) : Host.Outcome State Fault Refusal := rotateR8 .rlc (.reg .d) s

/-- 0xCB 0x03 RLC E (R345). -/
def execRlcE (s : State) : Host.Outcome State Fault Refusal := rotateR8 .rlc (.reg .e) s

/-- 0xCB 0x04 RLC H (R345). -/
def execRlcH (s : State) : Host.Outcome State Fault Refusal := rotateR8 .rlc (.reg .h) s

/-- 0xCB 0x05 RLC L (R345). -/
def execRlcL (s : State) : Host.Outcome State Fault Refusal := rotateR8 .rlc (.reg .l) s

/-- 0xCB 0x06 RLC (HL) (R345). -/
def execRlcAtHL (s : State) : Host.Outcome State Fault Refusal := rotateR8 .rlc .atHL s

/-- 0xCB 0x07 RLC A (R345). -/
def execRlcA (s : State) : Host.Outcome State Fault Refusal := rotateR8 .rlc (.reg .a) s

/-- 0xCB 0x08 RRC B (R346). -/
def execRrcB (s : State) : Host.Outcome State Fault Refusal := rotateR8 .rrc (.reg .b) s

/-- 0xCB 0x09 RRC C (R346). -/
def execRrcC (s : State) : Host.Outcome State Fault Refusal := rotateR8 .rrc (.reg .c) s

/-- 0xCB 0x0A RRC D (R346). -/
def execRrcD (s : State) : Host.Outcome State Fault Refusal := rotateR8 .rrc (.reg .d) s

/-- 0xCB 0x0B RRC E (R346). -/
def execRrcE (s : State) : Host.Outcome State Fault Refusal := rotateR8 .rrc (.reg .e) s

/-- 0xCB 0x0C RRC H (R346). -/
def execRrcH (s : State) : Host.Outcome State Fault Refusal := rotateR8 .rrc (.reg .h) s

/-- 0xCB 0x0D RRC L (R346). -/
def execRrcL (s : State) : Host.Outcome State Fault Refusal := rotateR8 .rrc (.reg .l) s

/-- 0xCB 0x0E RRC (HL) (R346). -/
def execRrcAtHL (s : State) : Host.Outcome State Fault Refusal := rotateR8 .rrc .atHL s

/-- 0xCB 0x0F RRC A (R346). -/
def execRrcA (s : State) : Host.Outcome State Fault Refusal := rotateR8 .rrc (.reg .a) s

/-- 0xCB 0x10 RL B (R347). -/
def execRlB (s : State) : Host.Outcome State Fault Refusal := rotateR8 .rl (.reg .b) s

/-- 0xCB 0x11 RL C (R347). -/
def execRlC (s : State) : Host.Outcome State Fault Refusal := rotateR8 .rl (.reg .c) s

/-- 0xCB 0x12 RL D (R347). -/
def execRlD (s : State) : Host.Outcome State Fault Refusal := rotateR8 .rl (.reg .d) s

/-- 0xCB 0x13 RL E (R347). -/
def execRlE (s : State) : Host.Outcome State Fault Refusal := rotateR8 .rl (.reg .e) s

/-- 0xCB 0x14 RL H (R347). -/
def execRlH (s : State) : Host.Outcome State Fault Refusal := rotateR8 .rl (.reg .h) s

/-- 0xCB 0x15 RL L (R347). -/
def execRlL (s : State) : Host.Outcome State Fault Refusal := rotateR8 .rl (.reg .l) s

/-- 0xCB 0x16 RL (HL) (R347). -/
def execRlAtHL (s : State) : Host.Outcome State Fault Refusal := rotateR8 .rl .atHL s

/-- 0xCB 0x17 RL A (R347). -/
def execRlA (s : State) : Host.Outcome State Fault Refusal := rotateR8 .rl (.reg .a) s

/-- 0xCB 0x18 RR B (R348). -/
def execRrB (s : State) : Host.Outcome State Fault Refusal := rotateR8 .rr (.reg .b) s

/-- 0xCB 0x19 RR C (R348). -/
def execRrC (s : State) : Host.Outcome State Fault Refusal := rotateR8 .rr (.reg .c) s

/-- 0xCB 0x1A RR D (R348). -/
def execRrD (s : State) : Host.Outcome State Fault Refusal := rotateR8 .rr (.reg .d) s

/-- 0xCB 0x1B RR E (R348). -/
def execRrE (s : State) : Host.Outcome State Fault Refusal := rotateR8 .rr (.reg .e) s

/-- 0xCB 0x1C RR H (R348). -/
def execRrH (s : State) : Host.Outcome State Fault Refusal := rotateR8 .rr (.reg .h) s

/-- 0xCB 0x1D RR L (R348). -/
def execRrL (s : State) : Host.Outcome State Fault Refusal := rotateR8 .rr (.reg .l) s

/-- 0xCB 0x1E RR (HL) (R348). -/
def execRrAtHL (s : State) : Host.Outcome State Fault Refusal := rotateR8 .rr .atHL s

/-- 0xCB 0x1F RR A (R348). -/
def execRrA (s : State) : Host.Outcome State Fault Refusal := rotateR8 .rr (.reg .a) s

/-- 0xCB 0x20 SLA B (R349). -/
def execSlaB (s : State) : Host.Outcome State Fault Refusal := rotateR8 .sla (.reg .b) s

/-- 0xCB 0x21 SLA C (R349). -/
def execSlaC (s : State) : Host.Outcome State Fault Refusal := rotateR8 .sla (.reg .c) s

/-- 0xCB 0x22 SLA D (R349). -/
def execSlaD (s : State) : Host.Outcome State Fault Refusal := rotateR8 .sla (.reg .d) s

/-- 0xCB 0x23 SLA E (R349). -/
def execSlaE (s : State) : Host.Outcome State Fault Refusal := rotateR8 .sla (.reg .e) s

/-- 0xCB 0x24 SLA H (R349). -/
def execSlaH (s : State) : Host.Outcome State Fault Refusal := rotateR8 .sla (.reg .h) s

/-- 0xCB 0x25 SLA L (R349). -/
def execSlaL (s : State) : Host.Outcome State Fault Refusal := rotateR8 .sla (.reg .l) s

/-- 0xCB 0x26 SLA (HL) (R349). -/
def execSlaAtHL (s : State) : Host.Outcome State Fault Refusal := rotateR8 .sla .atHL s

/-- 0xCB 0x27 SLA A (R349). -/
def execSlaA (s : State) : Host.Outcome State Fault Refusal := rotateR8 .sla (.reg .a) s

/-- 0xCB 0x28 SRA B (R350). -/
def execSraB (s : State) : Host.Outcome State Fault Refusal := rotateR8 .sra (.reg .b) s

/-- 0xCB 0x29 SRA C (R350). -/
def execSraC (s : State) : Host.Outcome State Fault Refusal := rotateR8 .sra (.reg .c) s

/-- 0xCB 0x2A SRA D (R350). -/
def execSraD (s : State) : Host.Outcome State Fault Refusal := rotateR8 .sra (.reg .d) s

/-- 0xCB 0x2B SRA E (R350). -/
def execSraE (s : State) : Host.Outcome State Fault Refusal := rotateR8 .sra (.reg .e) s

/-- 0xCB 0x2C SRA H (R350). -/
def execSraH (s : State) : Host.Outcome State Fault Refusal := rotateR8 .sra (.reg .h) s

/-- 0xCB 0x2D SRA L (R350). -/
def execSraL (s : State) : Host.Outcome State Fault Refusal := rotateR8 .sra (.reg .l) s

/-- 0xCB 0x2E SRA (HL) (R350). -/
def execSraAtHL (s : State) : Host.Outcome State Fault Refusal := rotateR8 .sra .atHL s

/-- 0xCB 0x2F SRA A (R350). -/
def execSraA (s : State) : Host.Outcome State Fault Refusal := rotateR8 .sra (.reg .a) s

/-- 0xCB 0x30 SWAP B (R351). -/
def execSwapB (s : State) : Host.Outcome State Fault Refusal := rotateR8 .swap (.reg .b) s

/-- 0xCB 0x31 SWAP C (R351). -/
def execSwapC (s : State) : Host.Outcome State Fault Refusal := rotateR8 .swap (.reg .c) s

/-- 0xCB 0x32 SWAP D (R351). -/
def execSwapD (s : State) : Host.Outcome State Fault Refusal := rotateR8 .swap (.reg .d) s

/-- 0xCB 0x33 SWAP E (R351). -/
def execSwapE (s : State) : Host.Outcome State Fault Refusal := rotateR8 .swap (.reg .e) s

/-- 0xCB 0x34 SWAP H (R351). -/
def execSwapH (s : State) : Host.Outcome State Fault Refusal := rotateR8 .swap (.reg .h) s

/-- 0xCB 0x35 SWAP L (R351). -/
def execSwapL (s : State) : Host.Outcome State Fault Refusal := rotateR8 .swap (.reg .l) s

/-- 0xCB 0x36 SWAP (HL) (R351). -/
def execSwapAtHL (s : State) : Host.Outcome State Fault Refusal := rotateR8 .swap .atHL s

/-- 0xCB 0x37 SWAP A (R351). -/
def execSwapA (s : State) : Host.Outcome State Fault Refusal := rotateR8 .swap (.reg .a) s

/-- 0xCB 0x38 SRL B (R352). -/
def execSrlB (s : State) : Host.Outcome State Fault Refusal := rotateR8 .srl (.reg .b) s

/-- 0xCB 0x39 SRL C (R352). -/
def execSrlC (s : State) : Host.Outcome State Fault Refusal := rotateR8 .srl (.reg .c) s

/-- 0xCB 0x3A SRL D (R352). -/
def execSrlD (s : State) : Host.Outcome State Fault Refusal := rotateR8 .srl (.reg .d) s

/-- 0xCB 0x3B SRL E (R352). -/
def execSrlE (s : State) : Host.Outcome State Fault Refusal := rotateR8 .srl (.reg .e) s

/-- 0xCB 0x3C SRL H (R352). -/
def execSrlH (s : State) : Host.Outcome State Fault Refusal := rotateR8 .srl (.reg .h) s

/-- 0xCB 0x3D SRL L (R352). -/
def execSrlL (s : State) : Host.Outcome State Fault Refusal := rotateR8 .srl (.reg .l) s

/-- 0xCB 0x3E SRL (HL) (R352). -/
def execSrlAtHL (s : State) : Host.Outcome State Fault Refusal := rotateR8 .srl .atHL s

/-- 0xCB 0x3F SRL A (R352). -/
def execSrlA (s : State) : Host.Outcome State Fault Refusal := rotateR8 .srl (.reg .a) s

/-- 0xCB 0x40 BIT 0,B (R353). -/
def execBit0_B (s : State) : Host.Outcome State Fault Refusal := bitR8 0 (.reg .b) s

/-- 0xCB 0x41 BIT 0,C (R353). -/
def execBit0_C (s : State) : Host.Outcome State Fault Refusal := bitR8 0 (.reg .c) s

/-- 0xCB 0x42 BIT 0,D (R353). -/
def execBit0_D (s : State) : Host.Outcome State Fault Refusal := bitR8 0 (.reg .d) s

/-- 0xCB 0x43 BIT 0,E (R353). -/
def execBit0_E (s : State) : Host.Outcome State Fault Refusal := bitR8 0 (.reg .e) s

/-- 0xCB 0x44 BIT 0,H (R353). -/
def execBit0_H (s : State) : Host.Outcome State Fault Refusal := bitR8 0 (.reg .h) s

/-- 0xCB 0x45 BIT 0,L (R353). -/
def execBit0_L (s : State) : Host.Outcome State Fault Refusal := bitR8 0 (.reg .l) s

/-- 0xCB 0x46 BIT 0,(HL) (R353). -/
def execBit0_atHL (s : State) : Host.Outcome State Fault Refusal := bitR8 0 .atHL s

/-- 0xCB 0x47 BIT 0,A (R353). -/
def execBit0_A (s : State) : Host.Outcome State Fault Refusal := bitR8 0 (.reg .a) s

/-- 0xCB 0x48 BIT 1,B (R353). -/
def execBit1_B (s : State) : Host.Outcome State Fault Refusal := bitR8 1 (.reg .b) s

/-- 0xCB 0x49 BIT 1,C (R353). -/
def execBit1_C (s : State) : Host.Outcome State Fault Refusal := bitR8 1 (.reg .c) s

/-- 0xCB 0x4A BIT 1,D (R353). -/
def execBit1_D (s : State) : Host.Outcome State Fault Refusal := bitR8 1 (.reg .d) s

/-- 0xCB 0x4B BIT 1,E (R353). -/
def execBit1_E (s : State) : Host.Outcome State Fault Refusal := bitR8 1 (.reg .e) s

/-- 0xCB 0x4C BIT 1,H (R353). -/
def execBit1_H (s : State) : Host.Outcome State Fault Refusal := bitR8 1 (.reg .h) s

/-- 0xCB 0x4D BIT 1,L (R353). -/
def execBit1_L (s : State) : Host.Outcome State Fault Refusal := bitR8 1 (.reg .l) s

/-- 0xCB 0x4E BIT 1,(HL) (R353). -/
def execBit1_atHL (s : State) : Host.Outcome State Fault Refusal := bitR8 1 .atHL s

/-- 0xCB 0x4F BIT 1,A (R353). -/
def execBit1_A (s : State) : Host.Outcome State Fault Refusal := bitR8 1 (.reg .a) s

/-- 0xCB 0x50 BIT 2,B (R353). -/
def execBit2_B (s : State) : Host.Outcome State Fault Refusal := bitR8 2 (.reg .b) s

/-- 0xCB 0x51 BIT 2,C (R353). -/
def execBit2_C (s : State) : Host.Outcome State Fault Refusal := bitR8 2 (.reg .c) s

/-- 0xCB 0x52 BIT 2,D (R353). -/
def execBit2_D (s : State) : Host.Outcome State Fault Refusal := bitR8 2 (.reg .d) s

/-- 0xCB 0x53 BIT 2,E (R353). -/
def execBit2_E (s : State) : Host.Outcome State Fault Refusal := bitR8 2 (.reg .e) s

/-- 0xCB 0x54 BIT 2,H (R353). -/
def execBit2_H (s : State) : Host.Outcome State Fault Refusal := bitR8 2 (.reg .h) s

/-- 0xCB 0x55 BIT 2,L (R353). -/
def execBit2_L (s : State) : Host.Outcome State Fault Refusal := bitR8 2 (.reg .l) s

/-- 0xCB 0x56 BIT 2,(HL) (R353). -/
def execBit2_atHL (s : State) : Host.Outcome State Fault Refusal := bitR8 2 .atHL s

/-- 0xCB 0x57 BIT 2,A (R353). -/
def execBit2_A (s : State) : Host.Outcome State Fault Refusal := bitR8 2 (.reg .a) s

/-- 0xCB 0x58 BIT 3,B (R353). -/
def execBit3_B (s : State) : Host.Outcome State Fault Refusal := bitR8 3 (.reg .b) s

/-- 0xCB 0x59 BIT 3,C (R353). -/
def execBit3_C (s : State) : Host.Outcome State Fault Refusal := bitR8 3 (.reg .c) s

/-- 0xCB 0x5A BIT 3,D (R353). -/
def execBit3_D (s : State) : Host.Outcome State Fault Refusal := bitR8 3 (.reg .d) s

/-- 0xCB 0x5B BIT 3,E (R353). -/
def execBit3_E (s : State) : Host.Outcome State Fault Refusal := bitR8 3 (.reg .e) s

/-- 0xCB 0x5C BIT 3,H (R353). -/
def execBit3_H (s : State) : Host.Outcome State Fault Refusal := bitR8 3 (.reg .h) s

/-- 0xCB 0x5D BIT 3,L (R353). -/
def execBit3_L (s : State) : Host.Outcome State Fault Refusal := bitR8 3 (.reg .l) s

/-- 0xCB 0x5E BIT 3,(HL) (R353). -/
def execBit3_atHL (s : State) : Host.Outcome State Fault Refusal := bitR8 3 .atHL s

/-- 0xCB 0x5F BIT 3,A (R353). -/
def execBit3_A (s : State) : Host.Outcome State Fault Refusal := bitR8 3 (.reg .a) s

/-- 0xCB 0x60 BIT 4,B (R353). -/
def execBit4_B (s : State) : Host.Outcome State Fault Refusal := bitR8 4 (.reg .b) s

/-- 0xCB 0x61 BIT 4,C (R353). -/
def execBit4_C (s : State) : Host.Outcome State Fault Refusal := bitR8 4 (.reg .c) s

/-- 0xCB 0x62 BIT 4,D (R353). -/
def execBit4_D (s : State) : Host.Outcome State Fault Refusal := bitR8 4 (.reg .d) s

/-- 0xCB 0x63 BIT 4,E (R353). -/
def execBit4_E (s : State) : Host.Outcome State Fault Refusal := bitR8 4 (.reg .e) s

/-- 0xCB 0x64 BIT 4,H (R353). -/
def execBit4_H (s : State) : Host.Outcome State Fault Refusal := bitR8 4 (.reg .h) s

/-- 0xCB 0x65 BIT 4,L (R353). -/
def execBit4_L (s : State) : Host.Outcome State Fault Refusal := bitR8 4 (.reg .l) s

/-- 0xCB 0x66 BIT 4,(HL) (R353). -/
def execBit4_atHL (s : State) : Host.Outcome State Fault Refusal := bitR8 4 .atHL s

/-- 0xCB 0x67 BIT 4,A (R353). -/
def execBit4_A (s : State) : Host.Outcome State Fault Refusal := bitR8 4 (.reg .a) s

/-- 0xCB 0x68 BIT 5,B (R353). -/
def execBit5_B (s : State) : Host.Outcome State Fault Refusal := bitR8 5 (.reg .b) s

/-- 0xCB 0x69 BIT 5,C (R353). -/
def execBit5_C (s : State) : Host.Outcome State Fault Refusal := bitR8 5 (.reg .c) s

/-- 0xCB 0x6A BIT 5,D (R353). -/
def execBit5_D (s : State) : Host.Outcome State Fault Refusal := bitR8 5 (.reg .d) s

/-- 0xCB 0x6B BIT 5,E (R353). -/
def execBit5_E (s : State) : Host.Outcome State Fault Refusal := bitR8 5 (.reg .e) s

/-- 0xCB 0x6C BIT 5,H (R353). -/
def execBit5_H (s : State) : Host.Outcome State Fault Refusal := bitR8 5 (.reg .h) s

/-- 0xCB 0x6D BIT 5,L (R353). -/
def execBit5_L (s : State) : Host.Outcome State Fault Refusal := bitR8 5 (.reg .l) s

/-- 0xCB 0x6E BIT 5,(HL) (R353). -/
def execBit5_atHL (s : State) : Host.Outcome State Fault Refusal := bitR8 5 .atHL s

/-- 0xCB 0x6F BIT 5,A (R353). -/
def execBit5_A (s : State) : Host.Outcome State Fault Refusal := bitR8 5 (.reg .a) s

/-- 0xCB 0x70 BIT 6,B (R353). -/
def execBit6_B (s : State) : Host.Outcome State Fault Refusal := bitR8 6 (.reg .b) s

/-- 0xCB 0x71 BIT 6,C (R353). -/
def execBit6_C (s : State) : Host.Outcome State Fault Refusal := bitR8 6 (.reg .c) s

/-- 0xCB 0x72 BIT 6,D (R353). -/
def execBit6_D (s : State) : Host.Outcome State Fault Refusal := bitR8 6 (.reg .d) s

/-- 0xCB 0x73 BIT 6,E (R353). -/
def execBit6_E (s : State) : Host.Outcome State Fault Refusal := bitR8 6 (.reg .e) s

/-- 0xCB 0x74 BIT 6,H (R353). -/
def execBit6_H (s : State) : Host.Outcome State Fault Refusal := bitR8 6 (.reg .h) s

/-- 0xCB 0x75 BIT 6,L (R353). -/
def execBit6_L (s : State) : Host.Outcome State Fault Refusal := bitR8 6 (.reg .l) s

/-- 0xCB 0x76 BIT 6,(HL) (R353). -/
def execBit6_atHL (s : State) : Host.Outcome State Fault Refusal := bitR8 6 .atHL s

/-- 0xCB 0x77 BIT 6,A (R353). -/
def execBit6_A (s : State) : Host.Outcome State Fault Refusal := bitR8 6 (.reg .a) s

/-- 0xCB 0x78 BIT 7,B (R353). -/
def execBit7_B (s : State) : Host.Outcome State Fault Refusal := bitR8 7 (.reg .b) s

/-- 0xCB 0x79 BIT 7,C (R353). -/
def execBit7_C (s : State) : Host.Outcome State Fault Refusal := bitR8 7 (.reg .c) s

/-- 0xCB 0x7A BIT 7,D (R353). -/
def execBit7_D (s : State) : Host.Outcome State Fault Refusal := bitR8 7 (.reg .d) s

/-- 0xCB 0x7B BIT 7,E (R353). -/
def execBit7_E (s : State) : Host.Outcome State Fault Refusal := bitR8 7 (.reg .e) s

/-- 0xCB 0x7C BIT 7,H (R353). -/
def execBit7_H (s : State) : Host.Outcome State Fault Refusal := bitR8 7 (.reg .h) s

/-- 0xCB 0x7D BIT 7,L (R353). -/
def execBit7_L (s : State) : Host.Outcome State Fault Refusal := bitR8 7 (.reg .l) s

/-- 0xCB 0x7E BIT 7,(HL) (R353). -/
def execBit7_atHL (s : State) : Host.Outcome State Fault Refusal := bitR8 7 .atHL s

/-- 0xCB 0x7F BIT 7,A (R353). -/
def execBit7_A (s : State) : Host.Outcome State Fault Refusal := bitR8 7 (.reg .a) s

/-- 0xCB 0x80 RES 0,B (R354). -/
def execRes0_B (s : State) : Host.Outcome State Fault Refusal := resR8 0 (.reg .b) s

/-- 0xCB 0x81 RES 0,C (R354). -/
def execRes0_C (s : State) : Host.Outcome State Fault Refusal := resR8 0 (.reg .c) s

/-- 0xCB 0x82 RES 0,D (R354). -/
def execRes0_D (s : State) : Host.Outcome State Fault Refusal := resR8 0 (.reg .d) s

/-- 0xCB 0x83 RES 0,E (R354). -/
def execRes0_E (s : State) : Host.Outcome State Fault Refusal := resR8 0 (.reg .e) s

/-- 0xCB 0x84 RES 0,H (R354). -/
def execRes0_H (s : State) : Host.Outcome State Fault Refusal := resR8 0 (.reg .h) s

/-- 0xCB 0x85 RES 0,L (R354). -/
def execRes0_L (s : State) : Host.Outcome State Fault Refusal := resR8 0 (.reg .l) s

/-- 0xCB 0x86 RES 0,(HL) (R354). -/
def execRes0_atHL (s : State) : Host.Outcome State Fault Refusal := resR8 0 .atHL s

/-- 0xCB 0x87 RES 0,A (R354). -/
def execRes0_A (s : State) : Host.Outcome State Fault Refusal := resR8 0 (.reg .a) s

/-- 0xCB 0x88 RES 1,B (R354). -/
def execRes1_B (s : State) : Host.Outcome State Fault Refusal := resR8 1 (.reg .b) s

/-- 0xCB 0x89 RES 1,C (R354). -/
def execRes1_C (s : State) : Host.Outcome State Fault Refusal := resR8 1 (.reg .c) s

/-- 0xCB 0x8A RES 1,D (R354). -/
def execRes1_D (s : State) : Host.Outcome State Fault Refusal := resR8 1 (.reg .d) s

/-- 0xCB 0x8B RES 1,E (R354). -/
def execRes1_E (s : State) : Host.Outcome State Fault Refusal := resR8 1 (.reg .e) s

/-- 0xCB 0x8C RES 1,H (R354). -/
def execRes1_H (s : State) : Host.Outcome State Fault Refusal := resR8 1 (.reg .h) s

/-- 0xCB 0x8D RES 1,L (R354). -/
def execRes1_L (s : State) : Host.Outcome State Fault Refusal := resR8 1 (.reg .l) s

/-- 0xCB 0x8E RES 1,(HL) (R354). -/
def execRes1_atHL (s : State) : Host.Outcome State Fault Refusal := resR8 1 .atHL s

/-- 0xCB 0x8F RES 1,A (R354). -/
def execRes1_A (s : State) : Host.Outcome State Fault Refusal := resR8 1 (.reg .a) s

/-- 0xCB 0x90 RES 2,B (R354). -/
def execRes2_B (s : State) : Host.Outcome State Fault Refusal := resR8 2 (.reg .b) s

/-- 0xCB 0x91 RES 2,C (R354). -/
def execRes2_C (s : State) : Host.Outcome State Fault Refusal := resR8 2 (.reg .c) s

/-- 0xCB 0x92 RES 2,D (R354). -/
def execRes2_D (s : State) : Host.Outcome State Fault Refusal := resR8 2 (.reg .d) s

/-- 0xCB 0x93 RES 2,E (R354). -/
def execRes2_E (s : State) : Host.Outcome State Fault Refusal := resR8 2 (.reg .e) s

/-- 0xCB 0x94 RES 2,H (R354). -/
def execRes2_H (s : State) : Host.Outcome State Fault Refusal := resR8 2 (.reg .h) s

/-- 0xCB 0x95 RES 2,L (R354). -/
def execRes2_L (s : State) : Host.Outcome State Fault Refusal := resR8 2 (.reg .l) s

/-- 0xCB 0x96 RES 2,(HL) (R354). -/
def execRes2_atHL (s : State) : Host.Outcome State Fault Refusal := resR8 2 .atHL s

/-- 0xCB 0x97 RES 2,A (R354). -/
def execRes2_A (s : State) : Host.Outcome State Fault Refusal := resR8 2 (.reg .a) s

/-- 0xCB 0x98 RES 3,B (R354). -/
def execRes3_B (s : State) : Host.Outcome State Fault Refusal := resR8 3 (.reg .b) s

/-- 0xCB 0x99 RES 3,C (R354). -/
def execRes3_C (s : State) : Host.Outcome State Fault Refusal := resR8 3 (.reg .c) s

/-- 0xCB 0x9A RES 3,D (R354). -/
def execRes3_D (s : State) : Host.Outcome State Fault Refusal := resR8 3 (.reg .d) s

/-- 0xCB 0x9B RES 3,E (R354). -/
def execRes3_E (s : State) : Host.Outcome State Fault Refusal := resR8 3 (.reg .e) s

/-- 0xCB 0x9C RES 3,H (R354). -/
def execRes3_H (s : State) : Host.Outcome State Fault Refusal := resR8 3 (.reg .h) s

/-- 0xCB 0x9D RES 3,L (R354). -/
def execRes3_L (s : State) : Host.Outcome State Fault Refusal := resR8 3 (.reg .l) s

/-- 0xCB 0x9E RES 3,(HL) (R354). -/
def execRes3_atHL (s : State) : Host.Outcome State Fault Refusal := resR8 3 .atHL s

/-- 0xCB 0x9F RES 3,A (R354). -/
def execRes3_A (s : State) : Host.Outcome State Fault Refusal := resR8 3 (.reg .a) s

/-- 0xCB 0xA0 RES 4,B (R354). -/
def execRes4_B (s : State) : Host.Outcome State Fault Refusal := resR8 4 (.reg .b) s

/-- 0xCB 0xA1 RES 4,C (R354). -/
def execRes4_C (s : State) : Host.Outcome State Fault Refusal := resR8 4 (.reg .c) s

/-- 0xCB 0xA2 RES 4,D (R354). -/
def execRes4_D (s : State) : Host.Outcome State Fault Refusal := resR8 4 (.reg .d) s

/-- 0xCB 0xA3 RES 4,E (R354). -/
def execRes4_E (s : State) : Host.Outcome State Fault Refusal := resR8 4 (.reg .e) s

/-- 0xCB 0xA4 RES 4,H (R354). -/
def execRes4_H (s : State) : Host.Outcome State Fault Refusal := resR8 4 (.reg .h) s

/-- 0xCB 0xA5 RES 4,L (R354). -/
def execRes4_L (s : State) : Host.Outcome State Fault Refusal := resR8 4 (.reg .l) s

/-- 0xCB 0xA6 RES 4,(HL) (R354). -/
def execRes4_atHL (s : State) : Host.Outcome State Fault Refusal := resR8 4 .atHL s

/-- 0xCB 0xA7 RES 4,A (R354). -/
def execRes4_A (s : State) : Host.Outcome State Fault Refusal := resR8 4 (.reg .a) s

/-- 0xCB 0xA8 RES 5,B (R354). -/
def execRes5_B (s : State) : Host.Outcome State Fault Refusal := resR8 5 (.reg .b) s

/-- 0xCB 0xA9 RES 5,C (R354). -/
def execRes5_C (s : State) : Host.Outcome State Fault Refusal := resR8 5 (.reg .c) s

/-- 0xCB 0xAA RES 5,D (R354). -/
def execRes5_D (s : State) : Host.Outcome State Fault Refusal := resR8 5 (.reg .d) s

/-- 0xCB 0xAB RES 5,E (R354). -/
def execRes5_E (s : State) : Host.Outcome State Fault Refusal := resR8 5 (.reg .e) s

/-- 0xCB 0xAC RES 5,H (R354). -/
def execRes5_H (s : State) : Host.Outcome State Fault Refusal := resR8 5 (.reg .h) s

/-- 0xCB 0xAD RES 5,L (R354). -/
def execRes5_L (s : State) : Host.Outcome State Fault Refusal := resR8 5 (.reg .l) s

/-- 0xCB 0xAE RES 5,(HL) (R354). -/
def execRes5_atHL (s : State) : Host.Outcome State Fault Refusal := resR8 5 .atHL s

/-- 0xCB 0xAF RES 5,A (R354). -/
def execRes5_A (s : State) : Host.Outcome State Fault Refusal := resR8 5 (.reg .a) s

/-- 0xCB 0xB0 RES 6,B (R354). -/
def execRes6_B (s : State) : Host.Outcome State Fault Refusal := resR8 6 (.reg .b) s

/-- 0xCB 0xB1 RES 6,C (R354). -/
def execRes6_C (s : State) : Host.Outcome State Fault Refusal := resR8 6 (.reg .c) s

/-- 0xCB 0xB2 RES 6,D (R354). -/
def execRes6_D (s : State) : Host.Outcome State Fault Refusal := resR8 6 (.reg .d) s

/-- 0xCB 0xB3 RES 6,E (R354). -/
def execRes6_E (s : State) : Host.Outcome State Fault Refusal := resR8 6 (.reg .e) s

/-- 0xCB 0xB4 RES 6,H (R354). -/
def execRes6_H (s : State) : Host.Outcome State Fault Refusal := resR8 6 (.reg .h) s

/-- 0xCB 0xB5 RES 6,L (R354). -/
def execRes6_L (s : State) : Host.Outcome State Fault Refusal := resR8 6 (.reg .l) s

/-- 0xCB 0xB6 RES 6,(HL) (R354). -/
def execRes6_atHL (s : State) : Host.Outcome State Fault Refusal := resR8 6 .atHL s

/-- 0xCB 0xB7 RES 6,A (R354). -/
def execRes6_A (s : State) : Host.Outcome State Fault Refusal := resR8 6 (.reg .a) s

/-- 0xCB 0xB8 RES 7,B (R354). -/
def execRes7_B (s : State) : Host.Outcome State Fault Refusal := resR8 7 (.reg .b) s

/-- 0xCB 0xB9 RES 7,C (R354). -/
def execRes7_C (s : State) : Host.Outcome State Fault Refusal := resR8 7 (.reg .c) s

/-- 0xCB 0xBA RES 7,D (R354). -/
def execRes7_D (s : State) : Host.Outcome State Fault Refusal := resR8 7 (.reg .d) s

/-- 0xCB 0xBB RES 7,E (R354). -/
def execRes7_E (s : State) : Host.Outcome State Fault Refusal := resR8 7 (.reg .e) s

/-- 0xCB 0xBC RES 7,H (R354). -/
def execRes7_H (s : State) : Host.Outcome State Fault Refusal := resR8 7 (.reg .h) s

/-- 0xCB 0xBD RES 7,L (R354). -/
def execRes7_L (s : State) : Host.Outcome State Fault Refusal := resR8 7 (.reg .l) s

/-- 0xCB 0xBE RES 7,(HL) (R354). -/
def execRes7_atHL (s : State) : Host.Outcome State Fault Refusal := resR8 7 .atHL s

/-- 0xCB 0xBF RES 7,A (R354). -/
def execRes7_A (s : State) : Host.Outcome State Fault Refusal := resR8 7 (.reg .a) s

/-- 0xCB 0xC0 SET 0,B (R355). -/
def execSet0_B (s : State) : Host.Outcome State Fault Refusal := setR8 0 (.reg .b) s

/-- 0xCB 0xC1 SET 0,C (R355). -/
def execSet0_C (s : State) : Host.Outcome State Fault Refusal := setR8 0 (.reg .c) s

/-- 0xCB 0xC2 SET 0,D (R355). -/
def execSet0_D (s : State) : Host.Outcome State Fault Refusal := setR8 0 (.reg .d) s

/-- 0xCB 0xC3 SET 0,E (R355). -/
def execSet0_E (s : State) : Host.Outcome State Fault Refusal := setR8 0 (.reg .e) s

/-- 0xCB 0xC4 SET 0,H (R355). -/
def execSet0_H (s : State) : Host.Outcome State Fault Refusal := setR8 0 (.reg .h) s

/-- 0xCB 0xC5 SET 0,L (R355). -/
def execSet0_L (s : State) : Host.Outcome State Fault Refusal := setR8 0 (.reg .l) s

/-- 0xCB 0xC6 SET 0,(HL) (R355). -/
def execSet0_atHL (s : State) : Host.Outcome State Fault Refusal := setR8 0 .atHL s

/-- 0xCB 0xC7 SET 0,A (R355). -/
def execSet0_A (s : State) : Host.Outcome State Fault Refusal := setR8 0 (.reg .a) s

/-- 0xCB 0xC8 SET 1,B (R355). -/
def execSet1_B (s : State) : Host.Outcome State Fault Refusal := setR8 1 (.reg .b) s

/-- 0xCB 0xC9 SET 1,C (R355). -/
def execSet1_C (s : State) : Host.Outcome State Fault Refusal := setR8 1 (.reg .c) s

/-- 0xCB 0xCA SET 1,D (R355). -/
def execSet1_D (s : State) : Host.Outcome State Fault Refusal := setR8 1 (.reg .d) s

/-- 0xCB 0xCB SET 1,E (R355). -/
def execSet1_E (s : State) : Host.Outcome State Fault Refusal := setR8 1 (.reg .e) s

/-- 0xCB 0xCC SET 1,H (R355). -/
def execSet1_H (s : State) : Host.Outcome State Fault Refusal := setR8 1 (.reg .h) s

/-- 0xCB 0xCD SET 1,L (R355). -/
def execSet1_L (s : State) : Host.Outcome State Fault Refusal := setR8 1 (.reg .l) s

/-- 0xCB 0xCE SET 1,(HL) (R355). -/
def execSet1_atHL (s : State) : Host.Outcome State Fault Refusal := setR8 1 .atHL s

/-- 0xCB 0xCF SET 1,A (R355). -/
def execSet1_A (s : State) : Host.Outcome State Fault Refusal := setR8 1 (.reg .a) s

/-- 0xCB 0xD0 SET 2,B (R355). -/
def execSet2_B (s : State) : Host.Outcome State Fault Refusal := setR8 2 (.reg .b) s

/-- 0xCB 0xD1 SET 2,C (R355). -/
def execSet2_C (s : State) : Host.Outcome State Fault Refusal := setR8 2 (.reg .c) s

/-- 0xCB 0xD2 SET 2,D (R355). -/
def execSet2_D (s : State) : Host.Outcome State Fault Refusal := setR8 2 (.reg .d) s

/-- 0xCB 0xD3 SET 2,E (R355). -/
def execSet2_E (s : State) : Host.Outcome State Fault Refusal := setR8 2 (.reg .e) s

/-- 0xCB 0xD4 SET 2,H (R355). -/
def execSet2_H (s : State) : Host.Outcome State Fault Refusal := setR8 2 (.reg .h) s

/-- 0xCB 0xD5 SET 2,L (R355). -/
def execSet2_L (s : State) : Host.Outcome State Fault Refusal := setR8 2 (.reg .l) s

/-- 0xCB 0xD6 SET 2,(HL) (R355). -/
def execSet2_atHL (s : State) : Host.Outcome State Fault Refusal := setR8 2 .atHL s

/-- 0xCB 0xD7 SET 2,A (R355). -/
def execSet2_A (s : State) : Host.Outcome State Fault Refusal := setR8 2 (.reg .a) s

/-- 0xCB 0xD8 SET 3,B (R355). -/
def execSet3_B (s : State) : Host.Outcome State Fault Refusal := setR8 3 (.reg .b) s

/-- 0xCB 0xD9 SET 3,C (R355). -/
def execSet3_C (s : State) : Host.Outcome State Fault Refusal := setR8 3 (.reg .c) s

/-- 0xCB 0xDA SET 3,D (R355). -/
def execSet3_D (s : State) : Host.Outcome State Fault Refusal := setR8 3 (.reg .d) s

/-- 0xCB 0xDB SET 3,E (R355). -/
def execSet3_E (s : State) : Host.Outcome State Fault Refusal := setR8 3 (.reg .e) s

/-- 0xCB 0xDC SET 3,H (R355). -/
def execSet3_H (s : State) : Host.Outcome State Fault Refusal := setR8 3 (.reg .h) s

/-- 0xCB 0xDD SET 3,L (R355). -/
def execSet3_L (s : State) : Host.Outcome State Fault Refusal := setR8 3 (.reg .l) s

/-- 0xCB 0xDE SET 3,(HL) (R355). -/
def execSet3_atHL (s : State) : Host.Outcome State Fault Refusal := setR8 3 .atHL s

/-- 0xCB 0xDF SET 3,A (R355). -/
def execSet3_A (s : State) : Host.Outcome State Fault Refusal := setR8 3 (.reg .a) s

/-- 0xCB 0xE0 SET 4,B (R355). -/
def execSet4_B (s : State) : Host.Outcome State Fault Refusal := setR8 4 (.reg .b) s

/-- 0xCB 0xE1 SET 4,C (R355). -/
def execSet4_C (s : State) : Host.Outcome State Fault Refusal := setR8 4 (.reg .c) s

/-- 0xCB 0xE2 SET 4,D (R355). -/
def execSet4_D (s : State) : Host.Outcome State Fault Refusal := setR8 4 (.reg .d) s

/-- 0xCB 0xE3 SET 4,E (R355). -/
def execSet4_E (s : State) : Host.Outcome State Fault Refusal := setR8 4 (.reg .e) s

/-- 0xCB 0xE4 SET 4,H (R355). -/
def execSet4_H (s : State) : Host.Outcome State Fault Refusal := setR8 4 (.reg .h) s

/-- 0xCB 0xE5 SET 4,L (R355). -/
def execSet4_L (s : State) : Host.Outcome State Fault Refusal := setR8 4 (.reg .l) s

/-- 0xCB 0xE6 SET 4,(HL) (R355). -/
def execSet4_atHL (s : State) : Host.Outcome State Fault Refusal := setR8 4 .atHL s

/-- 0xCB 0xE7 SET 4,A (R355). -/
def execSet4_A (s : State) : Host.Outcome State Fault Refusal := setR8 4 (.reg .a) s

/-- 0xCB 0xE8 SET 5,B (R355). -/
def execSet5_B (s : State) : Host.Outcome State Fault Refusal := setR8 5 (.reg .b) s

/-- 0xCB 0xE9 SET 5,C (R355). -/
def execSet5_C (s : State) : Host.Outcome State Fault Refusal := setR8 5 (.reg .c) s

/-- 0xCB 0xEA SET 5,D (R355). -/
def execSet5_D (s : State) : Host.Outcome State Fault Refusal := setR8 5 (.reg .d) s

/-- 0xCB 0xEB SET 5,E (R355). -/
def execSet5_E (s : State) : Host.Outcome State Fault Refusal := setR8 5 (.reg .e) s

/-- 0xCB 0xEC SET 5,H (R355). -/
def execSet5_H (s : State) : Host.Outcome State Fault Refusal := setR8 5 (.reg .h) s

/-- 0xCB 0xED SET 5,L (R355). -/
def execSet5_L (s : State) : Host.Outcome State Fault Refusal := setR8 5 (.reg .l) s

/-- 0xCB 0xEE SET 5,(HL) (R355). -/
def execSet5_atHL (s : State) : Host.Outcome State Fault Refusal := setR8 5 .atHL s

/-- 0xCB 0xEF SET 5,A (R355). -/
def execSet5_A (s : State) : Host.Outcome State Fault Refusal := setR8 5 (.reg .a) s

/-- 0xCB 0xF0 SET 6,B (R355). -/
def execSet6_B (s : State) : Host.Outcome State Fault Refusal := setR8 6 (.reg .b) s

/-- 0xCB 0xF1 SET 6,C (R355). -/
def execSet6_C (s : State) : Host.Outcome State Fault Refusal := setR8 6 (.reg .c) s

/-- 0xCB 0xF2 SET 6,D (R355). -/
def execSet6_D (s : State) : Host.Outcome State Fault Refusal := setR8 6 (.reg .d) s

/-- 0xCB 0xF3 SET 6,E (R355). -/
def execSet6_E (s : State) : Host.Outcome State Fault Refusal := setR8 6 (.reg .e) s

/-- 0xCB 0xF4 SET 6,H (R355). -/
def execSet6_H (s : State) : Host.Outcome State Fault Refusal := setR8 6 (.reg .h) s

/-- 0xCB 0xF5 SET 6,L (R355). -/
def execSet6_L (s : State) : Host.Outcome State Fault Refusal := setR8 6 (.reg .l) s

/-- 0xCB 0xF6 SET 6,(HL) (R355). -/
def execSet6_atHL (s : State) : Host.Outcome State Fault Refusal := setR8 6 .atHL s

/-- 0xCB 0xF7 SET 6,A (R355). -/
def execSet6_A (s : State) : Host.Outcome State Fault Refusal := setR8 6 (.reg .a) s

/-- 0xCB 0xF8 SET 7,B (R355). -/
def execSet7_B (s : State) : Host.Outcome State Fault Refusal := setR8 7 (.reg .b) s

/-- 0xCB 0xF9 SET 7,C (R355). -/
def execSet7_C (s : State) : Host.Outcome State Fault Refusal := setR8 7 (.reg .c) s

/-- 0xCB 0xFA SET 7,D (R355). -/
def execSet7_D (s : State) : Host.Outcome State Fault Refusal := setR8 7 (.reg .d) s

/-- 0xCB 0xFB SET 7,E (R355). -/
def execSet7_E (s : State) : Host.Outcome State Fault Refusal := setR8 7 (.reg .e) s

/-- 0xCB 0xFC SET 7,H (R355). -/
def execSet7_H (s : State) : Host.Outcome State Fault Refusal := setR8 7 (.reg .h) s

/-- 0xCB 0xFD SET 7,L (R355). -/
def execSet7_L (s : State) : Host.Outcome State Fault Refusal := setR8 7 (.reg .l) s

/-- 0xCB 0xFE SET 7,(HL) (R355). -/
def execSet7_atHL (s : State) : Host.Outcome State Fault Refusal := setR8 7 .atHL s

/-- 0xCB 0xFF SET 7,A (R355). -/
def execSet7_A (s : State) : Host.Outcome State Fault Refusal := setR8 7 (.reg .a) s

end Sys2Proof.Machine
end

