-- ==== Sys2Proof/Machine/System.lean ====
section
/-! DEFINITION. System and control instructions and the illegal opcodes (46_system.md R410 to R416): the shared operations, then
one meaning for each instruction. -/

namespace Sys2Proof.Machine

/-- NOP (R410). -/
def noOperation (s : State) : Host.Outcome State Fault Refusal := finish 4 (.ok () s)

/-- HALT: Halted, or with `HALT_BUG` and IME 0 and an interrupt pending, the halt bug armed (R411). -/
def haltCpu (s : State) : Host.Outcome State Fault Refusal :=
  if s.params.haltBug && !s.ime && s.pendingIrqs != 0 then finish 4 (.ok () { s with haltBugArmed := true })
  else finish 4 (.ok () { s with runState := .halted })

/-- STOP, its second byte already fetched (R412). -/
def stopCpu (s : State) : Host.Outcome State Fault Refusal :=
  match s.params.stopMode with
  | .halt => finish 4 (.ok () { s with runState := .halted })
  | .nop => finish 4 (.ok () s)

/-- DI (R413). -/
def disableInterrupts (s : State) : Host.Outcome State Fault Refusal :=
  finish 4 (.ok () { s with ime := false, imePending := false })

/-- EI (R414). -/
def enableInterrupts (s : State) : Host.Outcome State Fault Refusal := finish 4 (.ok () { s with imePending := true })

/-- An illegal opcode: `raise IllegalOpcode` with the byte and its address, nothing else changed (R416, 60_exceptions.md R440). The
address is where the opcode was fetched: R416's pc - 1, and pc itself where the halt bug kept pc: DEDUCED (log entry 18), safe. -/
def illegalOpcode (op : Byte) (s : State) : Host.Outcome State Fault Refusal :=
  finish 0 (.error (.illegalOpcode op s.opcodeAddr) s)

/-- 0x00 NOP (R410). -/
def execNop (s : State) : Host.Outcome State Fault Refusal := noOperation s

/-- 0x10 STOP (R412). -/
def execStop (_n : Byte) (s : State) : Host.Outcome State Fault Refusal := stopCpu s

/-- 0x76 HALT (R411). -/
def execHalt (s : State) : Host.Outcome State Fault Refusal := haltCpu s

/-- 0xD3 ILLEGAL 0xD3 (R416). -/
def execIllegalD3 (s : State) : Host.Outcome State Fault Refusal := illegalOpcode 0xD3 s

/-- 0xDB ILLEGAL 0xDB (R416). -/
def execIllegalDB (s : State) : Host.Outcome State Fault Refusal := illegalOpcode 0xDB s

/-- 0xDD ILLEGAL 0xDD (R416). -/
def execIllegalDD (s : State) : Host.Outcome State Fault Refusal := illegalOpcode 0xDD s

/-- 0xE3 ILLEGAL 0xE3 (R416). -/
def execIllegalE3 (s : State) : Host.Outcome State Fault Refusal := illegalOpcode 0xE3 s

/-- 0xE4 ILLEGAL 0xE4 (R416). -/
def execIllegalE4 (s : State) : Host.Outcome State Fault Refusal := illegalOpcode 0xE4 s

/-- 0xEB ILLEGAL 0xEB (R416). -/
def execIllegalEB (s : State) : Host.Outcome State Fault Refusal := illegalOpcode 0xEB s

/-- 0xEC ILLEGAL 0xEC (R416). -/
def execIllegalEC (s : State) : Host.Outcome State Fault Refusal := illegalOpcode 0xEC s

/-- 0xED ILLEGAL 0xED (R416). -/
def execIllegalED (s : State) : Host.Outcome State Fault Refusal := illegalOpcode 0xED s

/-- 0xF3 DI (R413). -/
def execDi (s : State) : Host.Outcome State Fault Refusal := disableInterrupts s

/-- 0xF4 ILLEGAL 0xF4 (R416). -/
def execIllegalF4 (s : State) : Host.Outcome State Fault Refusal := illegalOpcode 0xF4 s

/-- 0xFB EI (R414). -/
def execEi (s : State) : Host.Outcome State Fault Refusal := enableInterrupts s

/-- 0xFC ILLEGAL 0xFC (R416). -/
def execIllegalFC (s : State) : Host.Outcome State Fault Refusal := illegalOpcode 0xFC s

/-- 0xFD ILLEGAL 0xFD (R416). -/
def execIllegalFD (s : State) : Host.Outcome State Fault Refusal := illegalOpcode 0xFD s

end Sys2Proof.Machine
end

