-- ==== Sys2Proof/Machine/Timer.lean ====
section
/-! DEFINITION. The timer and divider (60_exceptions.md R450, R455, R456). -/

namespace Sys2Proof.Machine

/-- The DIV part: one count for each 256 accumulated cycles (R450). The loop as a quotient and a remainder: DEDUCED (log entry 13),
safe. -/
def divAdvance (c : Nat) (x : Timer) : Timer :=
  { x with divAcc := (x.divAcc + c) % 256, div := x.div + BitVec.ofNat 8 ((x.divAcc + c) / 256) }

/-- The period TAC[1:0] selects, in T-cycles (R455). -/
def timaPeriod (tac : BitVec 3) : Nat :=
  match tac.getLsbD 1, tac.getLsbD 0 with
  | false, false => 1024
  | false, true => 16
  | true, false => 64
  | true, true => 256

/-- `tima_increment()`: on overflow TIMA reloads from TMA and the Timer interrupt is requested (R456). -/
def timaIncrement (s : State) : State :=
  let x := s.bus.timer
  if x.tima = 0xFF then
    ({ s with bus := { s.bus with timer := { x with tima := x.tma } } }).requestInterrupt .timer
  else { s with bus := { s.bus with timer := { x with tima := x.tima + 1 } } }

/-- `n` increments. -/
def timaIncrements : Nat → State → State
  | 0, s => s
  | n + 1, s => timaIncrements n (timaIncrement s)

/-- The TIMA part: while TAC bit 2 is 1, an increment for each whole period accumulated (R455). -/
def timaAdvance (c : Nat) (s : State) : State :=
  let x := s.bus.timer
  if x.tac.getLsbD 2 then
    let period := timaPeriod x.tac
    timaIncrements ((x.timaAcc + c) / period)
      { s with bus := { s.bus with timer := { x with timaAcc := (x.timaAcc + c) % period } } }
  else s

/-- `timer_advance(c)` (R450, R455). -/
def timerAdvance (c : Nat) (s : State) : State :=
  timaAdvance c { s with bus := { s.bus with timer := divAdvance c s.bus.timer } }

end Sys2Proof.Machine
end

