-- ==== Sys2Proof/Machine/Video.lean ====
section
/-! DEFINITION. The video engine: the mode state machine and the pixel pipeline (61_video.md R510 to R533). -/

namespace Sys2Proof.Machine

/-! ### Rendering (R514, R515, R522 to R531) -/

/-- A bit of LCDC (R503). -/
def lcdcBit (v : Video) (k : Nat) : Bool := v.lcdc.getLsbD k

/-- The sprite height (R514, R527). -/
def spriteHeight (v : Video) : Nat := if lcdcBit v 2 then 16 else 8

/-- OAM entry `i` as a sprite (R502, R514). -/
def oamSprite (v : Video) (i : Nat) : Sprite :=
  { index := i
    yPos := (Memory.read v.oam (4 * i)).toNat - (16 : Int)
    xPos := (Memory.read v.oam (4 * i + 1)).toNat - (8 : Int)
    tile := Memory.read v.oam (4 * i + 2)
    attr := Memory.read v.oam (4 * i + 3) }

/-- The scan's test of a sprite: its rows cover LY and xPos is at least -7 (R514). -/
def spriteSelected (v : Video) (x : Sprite) : Bool :=
  decide (x.yPos ≤ v.ly ∧ (v.ly : Int) < x.yPos + spriteHeight v ∧ -7 ≤ x.xPos)

/-- Insert into a list sorted by xPos, after the sprites of the same xPos (R514: a stable sort). -/
def insertSprite (x : Sprite) : List Sprite → List Sprite
  | [] => [x]
  | y :: ys => if x.xPos < y.xPos then x :: y :: ys else y :: insertSprite x ys

/-- The stable sort by xPos ascending (R514). -/
def sortSprites (xs : List Sprite) : List Sprite := xs.foldl (fun sorted x => insertSprite x sorted) []

/-- `oam_scan()`: the first 10 selected entries in OAM order, stably sorted by xPos (R514). -/
def oamScan (v : Video) : List Sprite :=
  sortSprites ((((List.range 40).map (oamSprite v)).filter (spriteSelected v)).take 10)

/-- `window_y_check()` (R515). -/
def windowYCheck (v : Video) : Video := if v.ly = v.wy.toNat then { v with winYLatch := true } else v

/-- A byte of VRAM at a bus address (R501). -/
def vramAt (v : Video) (addr : Nat) : Byte := Memory.read v.vram (addr - 0x8000)

/-- `tile_pixel(addr, row, col)` (R523). -/
def tilePixel (v : Video) (addr row col : Nat) : BitVec 2 :=
  let lo := vramAt v (addr + 2 * row)
  let hi := vramAt v (addr + 2 * row + 1)
  BitVec.ofBool (hi.getLsbD (7 - col)) ++ BitVec.ofBool (lo.getLsbD (7 - col))

/-- `bg_tile_addr(idx)` (R522). -/
def bgTileAddr (v : Video) (idx : Byte) : Nat :=
  if lcdcBit v 4 then 0x8000 + idx.toNat * 16
  else if idx.toNat < 128 then 0x9000 + idx.toNat * 16
  else 0x9000 + idx.toNat * 16 - 256 * 16

/-- `obj_tile_addr(idx)` (R522). -/
def objTileAddr (idx : Byte) : Nat := 0x8000 + idx.toNat * 16

/-- The pixel of a 32 x 32 tile map at a position of 0 to 255 each way (R524, R525). -/
def mapPixel (v : Video) (map x y : Nat) : BitVec 2 :=
  tilePixel v (bgTileAddr v (vramAt v (map + (y / 8) * 32 + x / 8))) (y % 8) (x % 8)

/-- `bg_ci(x)` (R524). -/
def bgIndex (v : Video) (x : Nat) : BitVec 2 :=
  mapPixel v (if lcdcBit v 3 then 0x9C00 else 0x9800) ((x + v.scx.toNat) % 256) ((v.ly + v.scy.toNat) % 256)

/-- The window covers at least one pixel of the line (R516). -/
def windowOnLine (v : Video) : Bool := v.winYLatch && lcdcBit v 5 && lcdcBit v 0 && decide (v.wx.toNat ≤ 166)

/-- The window covers pixel `x`: on the line, and x ≥ WX - 7 (R525). -/
def windowCovers (v : Video) (x : Nat) : Bool := windowOnLine v && decide (v.wx.toNat ≤ x + 7)

/-- `win_ci(x)` (R525). -/
def winIndex (v : Video) (x : Nat) : BitVec 2 :=
  mapPixel v (if lcdcBit v 6 then 0x9C00 else 0x9800) (x + 7 - v.wx.toNat) v.winLine

/-- The sprite covers pixel `x` (R527, R528). -/
def spriteCovers (s : Sprite) (x : Nat) : Bool := decide (s.xPos ≤ x ∧ (x : Int) < s.xPos + 8)

/-- `obj_ci(s, x)` of a sprite that covers x (R526, R527). -/
def objIndex (v : Video) (s : Sprite) (x : Nat) : BitVec 2 :=
  let h := spriteHeight v
  let row0 := ((v.ly : Int) - s.yPos).toNat
  let row := if s.attr.getLsbD 6 then h - 1 - row0 else row0
  let col0 := ((x : Int) - s.xPos).toNat
  let col := if s.attr.getLsbD 5 then 7 - col0 else col0
  if h = 16 then
    tilePixel v (objTileAddr ((s.tile &&& 0xFE) + (if 8 ≤ row then 1 else 0))) (row % 8) col
  else tilePixel v (objTileAddr s.tile) row col

/-- The sprite pixel at `x` with its color index: the first of the buffer that covers x and is not transparent there (R528). -/
def spritePixel (v : Video) (x : Nat) : Option (Sprite × BitVec 2) :=
  if lcdcBit v 1 then
    (v.spriteBuf.find? (fun s => spriteCovers s x && objIndex v s x != 0)).map (fun s => (s, objIndex v s x))
  else none

/-- A palette's shade of a color index (R530). -/
def shadeOf (pal : Byte) (ci : BitVec 2) : Shade := pal.extractLsb' (2 * ci.toNat) 2

/-- The background or window color index and its shade at `x`; index 0 and shade 0 where LCDC bit 0 is 0 (R529). -/
def backPixel (v : Video) (x : Nat) : BitVec 2 × Shade :=
  if lcdcBit v 0 then
    let b := if windowCovers v x then winIndex v x else bgIndex v x
    (b, shadeOf v.bgp b)
  else (0, 0)

/-- `pixel(x)` (R529). -/
def pixel (v : Video) (x : Nat) : Shade :=
  let back := backPixel v x
  match spritePixel v x with
  | none => back.2
  | some (s, o) =>
    if s.attr.getLsbD 7 && back.1 != 0 then back.2
    else shadeOf (if s.attr.getLsbD 4 then v.obp1 else v.obp0) o

/-- The pixels of columns below `n` of the current line, written to `lines` (R531). -/
def renderPixels (v : Video) : Nat → Frame
  | 0 => v.lines
  | n + 1 => Frame.write (renderPixels v n) v.ly n (pixel v n)

/-- `render_line()`: sets `win_drawn` and the 160 pixels of row LY (R531). -/
def renderLine (v : Video) : Video :=
  { v with lines := renderPixels v 160, winDrawn := windowOnLine v }

/-- `enter_draw()` at line cycle 80 (R513). -/
def enterDraw (windowPenalty : Nat) (v : Video) : Video :=
  let v1 := renderLine (windowYCheck { v with spriteBuf := oamScan v })
  { v1 with
    drawEnd := 252 + v1.scx.toNat % 8 + (if v1.winDrawn then windowPenalty else 0)
    mode := .draw }

/-! ### The mode state machine (R510 to R521) -/

/-- A state with its video engine replaced. -/
def State.withVideo (s : State) (v : Video) : State := { s with video := v }

/-- `request_interrupt(1)` where the condition holds (R510, R520). -/
def State.requestStatIf (s : State) (b : Bool) : State := if b then s.requestInterrupt .lcdStat else s

/-- `enter_mode(m)` for HBlank, VBlank and OAMScan, with its STAT source (R510, R520). -/
def enterMode (m : Mode) (s : State) : State :=
  let sel := s.video.statSel
  (s.withVideo { s.video with mode := m }).requestStatIf
    (match m with
     | .hblank => sel.getLsbD 0
     | .vblank => sel.getLsbD 1
     | .oamScan => sel.getLsbD 2
     | .draw => false)

/-- `lyc_check()` (R521). -/
def lycCheck (s : State) : State :=
  let eq := decide (s.video.ly = s.video.lyc.toNat)
  (s.withVideo { s.video with coinc := eq }).requestStatIf (eq && s.video.statSel.getLsbD 3)

/-- `enter_vblank()` (R518). -/
def enterVblank (s : State) : State :=
  let t := (enterMode .vblank s).requestInterrupt .vblank
  t.withVideo { t.video with viewport := t.video.lines, winLine := 0, winYLatch := false }

/-- The line after `ly`: after 153 comes 0 (R519). -/
def nextLine (ly : Nat) : Nat := if ly + 1 = 154 then 0 else ly + 1

/-- The window-line count at a line's end, and the line's transient state reset (R517, R532). -/
def clearLine (v : Video) : Video :=
  { v with
    winLine := if v.winDrawn then v.winLine + 1 else v.winLine
    spriteBuf := []
    drawEnd := 252
    winDrawn := false }

/-- The mode a new line begins in: VBlank at line 144, OAMScan on a visible line, kept on lines 145 to 153 (R517). -/
def beginLine (s : State) : State :=
  if s.video.ly = 144 then enterVblank s else if s.video.ly < 144 then enterMode .oamScan s else s

/-- `line_end()` (R517, R519). -/
def lineEnd (s : State) : State :=
  let t := lycCheck (s.withVideo { s.video with lineCycle := 0, ly := nextLine s.video.ly })
  beginLine (t.withVideo (clearLine t.video))

/-- What happens at the line cycle just reached (R510). -/
def cycleEvent (s : State) : State :=
  if s.video.lineCycle = 456 then lineEnd s
  else if s.video.ly < 144 ∧ s.video.mode = .oamScan ∧ s.video.lineCycle = 80 then
    s.withVideo (enterDraw s.params.windowPenalty s.video)
  else if s.video.ly < 144 ∧ s.video.mode = .draw ∧ s.video.lineCycle = s.video.drawEnd then enterMode .hblank s
  else s

/-- `tick()` (R510). -/
def videoTick (s : State) : State := cycleEvent (s.withVideo { s.video with lineCycle := s.video.lineCycle + 1 })

/-- `c` ticks. -/
def videoTicks : Nat → State → State
  | 0, s => s
  | c + 1, s => videoTicks c (videoTick s)

/-- `lcd_off` (R511). -/
def lcdOff (s : State) : State :=
  s.withVideo { s.video with
    ly := 0, mode := .hblank, lineCycle := 0, winLine := 0, winYLatch := false, winDrawn := false, spriteBuf := [],
    lcdActive := false }

/-- `lcd_on()` (R512). -/
def lcdOn (s : State) : State :=
  enterMode .oamScan (lycCheck (s.withVideo { s.video with lcdActive := true, ly := 0, lineCycle := 0 }))

/-- `video_advance(c)` (R510). -/
def videoAdvance (c : Nat) (s : State) : State :=
  if !lcdcBit s.video 7 then lcdOff s
  else videoTicks c (if s.video.lcdActive then s else lcdOn s)

end Sys2Proof.Machine
end

