-- ==== Sys2Proof/Machine/Phases.lean ====
section
/-! DEFINITION. The phases of a step around the execution of its instruction (60_exceptions.md R430): fetching and decoding, the EI
delay, the devices, the interrupt phase; and placing an instruction where the next fetch reads. -/

namespace Sys2Proof.Machine

/-! ### Fetch and decode (30_encoding.md R181) -/

/-- Fetch a whole instruction, one byte at a time: the opcode, then as many bytes as it has more. No instruction does anything
before its last byte is fetched, so fetching them all first is the order of every pseudocode: DEDUCED (log entry 10),
safe. -/
def fetchInstr (s : State) : Access Instr :=
  (fetchOpcode s).bind fun op t =>
    if instrLength op = 1 then .ok (decodeBytes op 0 0) t
    else
      (fetch8 t).bind fun b1 u =>
        if instrLength op = 2 then .ok (decodeBytes op b1 0) u
        else (fetch8 u).bind fun b2 w => .ok (decodeBytes op b1 b2) w

/-! ### After the execution (R430) -/

/-- The EI delay: IME becomes 1 where `ime_pending` was set at the step's start and still is. -/
def eiDelay (pendingAtStart : Bool) (s : State) : State :=
  if pendingAtStart && s.imePending then { s with ime := true, imePending := false } else s

/-- The timer, then the video engine, by `c` cycles. -/
def advanceDevices (c : Nat) (s : State) : State := videoAdvance c (timerAdvance c s)

/-- Phase 3 and 4: wake, and with IME dispatch the first pending source, whose 20 cycles the devices run and the step counts.
A dispatch whose push raises an error ends the step Faulted (R437), with no device phase after it: DEDUCED (log entry 20), safe. -/
def interruptPhase (s : State) : State :=
  match s.firstIrq with
  | none => s
  | some k =>
    let t := s.wake
    if t.ime then
      match dispatch k t with
      | .ok _ u => advanceDevices 20 { u with cycles := u.cycles + 20 }
      | .error e u => u.raise e
    else t

/-- What a step does after its instruction, or its idle cycles: the EI delay, the devices by the instruction's cycles, the
interrupt phase; nothing where the execution raised an error (R430). -/
def afterExecute (pendingAtStart : Bool) (s : State) : State :=
  match s.runState with
  | .faulted _ => s
  | .running | .halted =>
    let t := eiDelay pendingAtStart s
    interruptPhase (advanceDevices t.cycles t)

/-! ### Placing an instruction at the next fetch

No instruction does this: it stands for loading a program from outside. DESIGN CHOICE (log entry 7), safe. -/

/-- A blank NoMBC cartridge: 32 KiB of 0x00, type 0x00 (21_cartridge.md R122, R128). -/
def blankCartridge : Cartridge := { rom := { size := 0x8000, cells := [] }, ram := [], mbc := .noMbc [] }

/-- An image with one byte set; an index past its end leaves it as it is. -/
def imageWith (m : Image) (i : Nat) (v : Byte) : Image :=
  if i < m.size then { m with cells := Memory.write m.cells i v } else m

/-- The cartridge with the byte a read of `a` gives set: the array of NoMBC, the ROM byte the mapped bank shows, or the RAM
byte. -/
def Cartridge.place (model : Mbc1Model) (c : Cartridge) (a : Word) (v : Byte) : Cartridge :=
  let n := a.toNat
  let rom := fun bank off => { c with rom := imageWith c.rom ((bank % romBanks c.rom) * 0x4000 + off) v }
  match c.mbc with
  | .noMbc arr => { c with mbc := .noMbc (arrWrite c.rom arr n v) }
  | .mbc1 r =>
    if n ≤ 0x3FFF then rom (r.fixedBank model) n
    else if n ≤ 0x7FFF then rom (r.switchBank model) (n - 0x4000)
    else c.ramWrite true r.ramBank (n - 0xA000) v
  | .mbc2 r =>
    if n ≤ 0x3FFF then rom 0 n
    else if n ≤ 0x7FFF then rom r.bank4.toNat (n - 0x4000)
    else { c with ram := Memory.write c.ram (n % 0x200) v }
  | .mbc3 r =>
    if n ≤ 0x3FFF then rom 0 n
    else if n ≤ 0x7FFF then rom r.bank7.toNat (n - 0x4000)
    else c.ramWrite true r.sel.toNat (n - 0xA000) v
  | .mbc5 r =>
    if n ≤ 0x3FFF then rom 0 n
    else if n ≤ 0x7FFF then rom r.switchBank (n - 0x4000)
    else c.ramWrite true r.rbank.toNat (n - 0xA000) v

/-- A boot image of 256 bytes with one byte set. -/
def bootImageWith (image : List Byte) (i : Nat) (v : Byte) : List Byte := image.set i v

/-- The state with the byte a bus read of `a` gives set to `v` where it is storage; a cartridge address with no cartridge
loaded gets the blank cartridge first. -/
def State.place (s : State) (a : Word) (v : Byte) : State :=
  if overlaid s a then { s with params := { s.params with bootRom := s.params.bootRom.map (bootImageWith · a.toNat v) } }
  else
    match route s.params a with
    | .cart => { s with cart := some ((s.cart.getD blankCartridge).place s.params.mbc1Model a v) }
    | .vram _ | .oam _ | .io _ | .ie | .flat _ =>
      match memWrite s a v with
      | .ok _ t => t
      | .error _ t => t

/-- The state with bytes placed from `a` on. -/
def State.placeAll (s : State) (a : Word) : List Byte → State
  | [] => s
  | v :: vs => (s.place a v).placeAll (a + 1) vs

end Sys2Proof.Machine
end

