-- ==== Sys2Proof/Machine/Step.lean ====
section
/-! DEFINITION. The step (60_exceptions.md R430), and a state whose next fetch reads a given instruction. -/

namespace Sys2Proof.Machine

/-- What a step answers once its execution has answered: the phases after it. -/
def finishStep (pendingAtStart : Bool) (x : Host.Outcome State Fault Refusal) : Host.Outcome State Fault Refusal :=
  match x with
  | .next t => .next (afterExecute pendingAtStart t)
  | .fault e => .fault e
  | .refused r => .refused r

/-- `step()` (R430): in the Faulted run state it raises the kept error and changes nothing (R431); Halted, it idles 4 cycles;
Running, it fetches, decodes and executes one instruction; then the phases after the execution. -/
def step (s : State) : Host.Outcome State Fault Refusal :=
  match s.runState with
  | .faulted e => .fault e
  | .halted => finishStep s.imePending (.next { s with cycles := 4 })
  | .running =>
    match fetchInstr s with
    | .ok i t => finishStep s.imePending (exec i t)
    | .error e t => .next (t.raise e)

/-- `s` with the instruction of a table word placed at pc, zeros after it, so that the next step fetches exactly it: the run state
Running, no halt bug armed, a blank cartridge loaded where pc is the cartridge's and none is. -/
def State.withFetchWord (s : State) (nbits w : Nat) : State :=
  ({ s with runState := .running, haltBugArmed := false }).placeAll s.regs.pc (tableBytes nbits w)

end Sys2Proof.Machine
end

