-- ==== Sys2Proof/Families.lean ====
section
/-! DEFINITION. The instructions by family and operand: for each family of the opcode maps, the constructor its operand fields
select (30_encoding.md R182 to R189). Statements about a family range over its operands through these. -/

namespace Sys2Proof

/-- LD r8,r8, opcodes 0x40 to 0x7F; the cell of LD (HL),(HL) is HALT (R191, R220, R222, R223). -/
def Instr.ldR8 (d s : R8) : Instr :=
  match d, s with
  | .reg .b, .reg .b => .ldB_B
  | .reg .b, .reg .c => .ldB_C
  | .reg .b, .reg .d => .ldB_D
  | .reg .b, .reg .e => .ldB_E
  | .reg .b, .reg .h => .ldB_H
  | .reg .b, .reg .l => .ldB_L
  | .reg .b, .atHL => .ldB_atHL
  | .reg .b, .reg .a => .ldB_A
  | .reg .c, .reg .b => .ldC_B
  | .reg .c, .reg .c => .ldC_C
  | .reg .c, .reg .d => .ldC_D
  | .reg .c, .reg .e => .ldC_E
  | .reg .c, .reg .h => .ldC_H
  | .reg .c, .reg .l => .ldC_L
  | .reg .c, .atHL => .ldC_atHL
  | .reg .c, .reg .a => .ldC_A
  | .reg .d, .reg .b => .ldD_B
  | .reg .d, .reg .c => .ldD_C
  | .reg .d, .reg .d => .ldD_D
  | .reg .d, .reg .e => .ldD_E
  | .reg .d, .reg .h => .ldD_H
  | .reg .d, .reg .l => .ldD_L
  | .reg .d, .atHL => .ldD_atHL
  | .reg .d, .reg .a => .ldD_A
  | .reg .e, .reg .b => .ldE_B
  | .reg .e, .reg .c => .ldE_C
  | .reg .e, .reg .d => .ldE_D
  | .reg .e, .reg .e => .ldE_E
  | .reg .e, .reg .h => .ldE_H
  | .reg .e, .reg .l => .ldE_L
  | .reg .e, .atHL => .ldE_atHL
  | .reg .e, .reg .a => .ldE_A
  | .reg .h, .reg .b => .ldH_B
  | .reg .h, .reg .c => .ldH_C
  | .reg .h, .reg .d => .ldH_D
  | .reg .h, .reg .e => .ldH_E
  | .reg .h, .reg .h => .ldH_H
  | .reg .h, .reg .l => .ldH_L
  | .reg .h, .atHL => .ldH_atHL
  | .reg .h, .reg .a => .ldH_A
  | .reg .l, .reg .b => .ldL_B
  | .reg .l, .reg .c => .ldL_C
  | .reg .l, .reg .d => .ldL_D
  | .reg .l, .reg .e => .ldL_E
  | .reg .l, .reg .h => .ldL_H
  | .reg .l, .reg .l => .ldL_L
  | .reg .l, .atHL => .ldL_atHL
  | .reg .l, .reg .a => .ldL_A
  | .atHL, .reg .b => .ldAtHL_B
  | .atHL, .reg .c => .ldAtHL_C
  | .atHL, .reg .d => .ldAtHL_D
  | .atHL, .reg .e => .ldAtHL_E
  | .atHL, .reg .h => .ldAtHL_H
  | .atHL, .reg .l => .ldAtHL_L
  | .atHL, .atHL => .halt
  | .atHL, .reg .a => .ldAtHL_A
  | .reg .a, .reg .b => .ldA_B
  | .reg .a, .reg .c => .ldA_C
  | .reg .a, .reg .d => .ldA_D
  | .reg .a, .reg .e => .ldA_E
  | .reg .a, .reg .h => .ldA_H
  | .reg .a, .reg .l => .ldA_L
  | .reg .a, .atHL => .ldA_atHL
  | .reg .a, .reg .a => .ldA_A

/-- LD r8,n (R221, R224). -/
def Instr.ldImm (d : R8) (n : Byte) : Instr :=
  match d with
  | .reg .b => .ldB_n n
  | .reg .c => .ldC_n n
  | .reg .d => .ldD_n n
  | .reg .e => .ldE_n n
  | .reg .h => .ldH_n n
  | .reg .l => .ldL_n n
  | .atHL => .ldAtHL_n n
  | .reg .a => .ldA_n n

/-- LD A,(rr_mem) (R225, R226, R237, R238). -/
def Instr.ldAFrom (p : MemPair) : Instr :=
  match p with
  | .bc => .ldA_atBC
  | .de => .ldA_atDE
  | .hlInc => .ldA_atHLI
  | .hlDec => .ldA_atHLD

/-- LD (rr_mem),A (R227, R228, R235, R236). -/
def Instr.ldATo (p : MemPair) : Instr :=
  match p with
  | .bc => .ldAtBC_A
  | .de => .ldAtDE_A
  | .hlInc => .ldAtHLI_A
  | .hlDec => .ldAtHLD_A

/-- LD rr,nn (R260). -/
def Instr.ldPair (r : Pair) (nn : Word) : Instr :=
  match r with
  | .bc => .ldBC_nn nn
  | .de => .ldDE_nn nn
  | .hl => .ldHL_nn nn
  | .sp => .ldSP_nn nn

/-- PUSH rr (R263). -/
def Instr.push (r : StackPair) : Instr :=
  match r with
  | .bc => .pushBC
  | .de => .pushDE
  | .hl => .pushHL
  | .af => .pushAF

/-- POP rr (R264, R265). -/
def Instr.pop (r : StackPair) : Instr :=
  match r with
  | .bc => .popBC
  | .de => .popDE
  | .hl => .popHL
  | .af => .popAF

/-- The ALU operations with an r8 operand, opcodes 0x80 to 0xBF (R187, R280). -/
def Instr.alu (op : AluOp) (s : R8) : Instr :=
  match op, s with
  | .add, .reg .b => .addA_B
  | .add, .reg .c => .addA_C
  | .add, .reg .d => .addA_D
  | .add, .reg .e => .addA_E
  | .add, .reg .h => .addA_H
  | .add, .reg .l => .addA_L
  | .add, .atHL => .addA_atHL
  | .add, .reg .a => .addA_A
  | .adc, .reg .b => .adcA_B
  | .adc, .reg .c => .adcA_C
  | .adc, .reg .d => .adcA_D
  | .adc, .reg .e => .adcA_E
  | .adc, .reg .h => .adcA_H
  | .adc, .reg .l => .adcA_L
  | .adc, .atHL => .adcA_atHL
  | .adc, .reg .a => .adcA_A
  | .sub, .reg .b => .subB
  | .sub, .reg .c => .subC
  | .sub, .reg .d => .subD
  | .sub, .reg .e => .subE
  | .sub, .reg .h => .subH
  | .sub, .reg .l => .subL
  | .sub, .atHL => .subAtHL
  | .sub, .reg .a => .subA
  | .sbc, .reg .b => .sbcA_B
  | .sbc, .reg .c => .sbcA_C
  | .sbc, .reg .d => .sbcA_D
  | .sbc, .reg .e => .sbcA_E
  | .sbc, .reg .h => .sbcA_H
  | .sbc, .reg .l => .sbcA_L
  | .sbc, .atHL => .sbcA_atHL
  | .sbc, .reg .a => .sbcA_A
  | .and, .reg .b => .andB
  | .and, .reg .c => .andC
  | .and, .reg .d => .andD
  | .and, .reg .e => .andE
  | .and, .reg .h => .andH
  | .and, .reg .l => .andL
  | .and, .atHL => .andAtHL
  | .and, .reg .a => .andA
  | .xor, .reg .b => .xorB
  | .xor, .reg .c => .xorC
  | .xor, .reg .d => .xorD
  | .xor, .reg .e => .xorE
  | .xor, .reg .h => .xorH
  | .xor, .reg .l => .xorL
  | .xor, .atHL => .xorAtHL
  | .xor, .reg .a => .xorA
  | .or, .reg .b => .orB
  | .or, .reg .c => .orC
  | .or, .reg .d => .orD
  | .or, .reg .e => .orE
  | .or, .reg .h => .orH
  | .or, .reg .l => .orL
  | .or, .atHL => .orAtHL
  | .or, .reg .a => .orA
  | .cp, .reg .b => .cpB
  | .cp, .reg .c => .cpC
  | .cp, .reg .d => .cpD
  | .cp, .reg .e => .cpE
  | .cp, .reg .h => .cpH
  | .cp, .reg .l => .cpL
  | .cp, .atHL => .cpAtHL
  | .cp, .reg .a => .cpA

/-- The ALU operations with an immediate (R187, R280). -/
def Instr.aluImm (op : AluOp) (n : Byte) : Instr :=
  match op with
  | .add => .addA_n n
  | .adc => .adcA_n n
  | .sub => .sub_n n
  | .sbc => .sbcA_n n
  | .and => .and_n n
  | .xor => .xor_n n
  | .or => .or_n n
  | .cp => .cp_n n

/-- INC r8 (R289, R290). -/
def Instr.incR8 (r : R8) : Instr :=
  match r with
  | .reg .b => .incB
  | .reg .c => .incC
  | .reg .d => .incD
  | .reg .e => .incE
  | .reg .h => .incH
  | .reg .l => .incL
  | .atHL => .incAtHL
  | .reg .a => .incA

/-- DEC r8 (R291, R292). -/
def Instr.decR8 (r : R8) : Instr :=
  match r with
  | .reg .b => .decB
  | .reg .c => .decC
  | .reg .d => .decD
  | .reg .e => .decE
  | .reg .h => .decH
  | .reg .l => .decL
  | .atHL => .decAtHL
  | .reg .a => .decA

/-- ADD HL,rr (R320). -/
def Instr.addHl (r : Pair) : Instr :=
  match r with
  | .bc => .addHL_BC
  | .de => .addHL_DE
  | .hl => .addHL_HL
  | .sp => .addHL_SP

/-- INC rr (R321). -/
def Instr.incPair (r : Pair) : Instr :=
  match r with
  | .bc => .incBC
  | .de => .incDE
  | .hl => .incHL
  | .sp => .incSP

/-- DEC rr (R322). -/
def Instr.decPair (r : Pair) : Instr :=
  match r with
  | .bc => .decBC
  | .de => .decDE
  | .hl => .decHL
  | .sp => .decSP

/-- JP cc,nn (R381). -/
def Instr.jpIf (cc : Cond) (nn : Word) : Instr :=
  match cc with
  | .nz => .jpNZ_nn nn
  | .z => .jpZ_nn nn
  | .nc => .jpNC_nn nn
  | .c => .jpC_nn nn

/-- JR cc,e (R384). -/
def Instr.jrIf (cc : Cond) (e : Byte) : Instr :=
  match cc with
  | .nz => .jrNZ_e e
  | .z => .jrZ_e e
  | .nc => .jrNC_e e
  | .c => .jrC_e e

/-- CALL cc,nn (R386). -/
def Instr.callIf (cc : Cond) (nn : Word) : Instr :=
  match cc with
  | .nz => .callNZ_nn nn
  | .z => .callZ_nn nn
  | .nc => .callNC_nn nn
  | .c => .callC_nn nn

/-- RET cc (R388). -/
def Instr.retIf (cc : Cond) : Instr :=
  match cc with
  | .nz => .retNZ
  | .z => .retZ
  | .nc => .retNC
  | .c => .retC

/-- RST t (R189, R390). -/
def Instr.rst (t : BitVec 3) : Instr :=
  if t = 0 then .rst00
  else if t = 1 then .rst08
  else if t = 2 then .rst10
  else if t = 3 then .rst18
  else if t = 4 then .rst20
  else if t = 5 then .rst28
  else if t = 6 then .rst30
  else .rst38

/-- The rotates, shifts and SWAP of the extended table (R188, R345 to R352). -/
def Instr.rot (op : RotOp) (r : R8) : Instr :=
  match op, r with
  | .rlc, .reg .b => .rlcB
  | .rlc, .reg .c => .rlcC
  | .rlc, .reg .d => .rlcD
  | .rlc, .reg .e => .rlcE
  | .rlc, .reg .h => .rlcH
  | .rlc, .reg .l => .rlcL
  | .rlc, .atHL => .rlcAtHL
  | .rlc, .reg .a => .rlcA
  | .rrc, .reg .b => .rrcB
  | .rrc, .reg .c => .rrcC
  | .rrc, .reg .d => .rrcD
  | .rrc, .reg .e => .rrcE
  | .rrc, .reg .h => .rrcH
  | .rrc, .reg .l => .rrcL
  | .rrc, .atHL => .rrcAtHL
  | .rrc, .reg .a => .rrcA
  | .rl, .reg .b => .rlB
  | .rl, .reg .c => .rlC
  | .rl, .reg .d => .rlD
  | .rl, .reg .e => .rlE
  | .rl, .reg .h => .rlH
  | .rl, .reg .l => .rlL
  | .rl, .atHL => .rlAtHL
  | .rl, .reg .a => .rlA
  | .rr, .reg .b => .rrB
  | .rr, .reg .c => .rrC
  | .rr, .reg .d => .rrD
  | .rr, .reg .e => .rrE
  | .rr, .reg .h => .rrH
  | .rr, .reg .l => .rrL
  | .rr, .atHL => .rrAtHL
  | .rr, .reg .a => .rrA
  | .sla, .reg .b => .slaB
  | .sla, .reg .c => .slaC
  | .sla, .reg .d => .slaD
  | .sla, .reg .e => .slaE
  | .sla, .reg .h => .slaH
  | .sla, .reg .l => .slaL
  | .sla, .atHL => .slaAtHL
  | .sla, .reg .a => .slaA
  | .sra, .reg .b => .sraB
  | .sra, .reg .c => .sraC
  | .sra, .reg .d => .sraD
  | .sra, .reg .e => .sraE
  | .sra, .reg .h => .sraH
  | .sra, .reg .l => .sraL
  | .sra, .atHL => .sraAtHL
  | .sra, .reg .a => .sraA
  | .swap, .reg .b => .swapB
  | .swap, .reg .c => .swapC
  | .swap, .reg .d => .swapD
  | .swap, .reg .e => .swapE
  | .swap, .reg .h => .swapH
  | .swap, .reg .l => .swapL
  | .swap, .atHL => .swapAtHL
  | .swap, .reg .a => .swapA
  | .srl, .reg .b => .srlB
  | .srl, .reg .c => .srlC
  | .srl, .reg .d => .srlD
  | .srl, .reg .e => .srlE
  | .srl, .reg .h => .srlH
  | .srl, .reg .l => .srlL
  | .srl, .atHL => .srlAtHL
  | .srl, .reg .a => .srlA

/-- BIT b,r8 (R188, R353). -/
def Instr.bit (b : BitVec 3) (r : R8) : Instr :=
  if b = 0 then
    match r with
    | .reg .b => .bit0_B | .reg .c => .bit0_C | .reg .d => .bit0_D | .reg .e => .bit0_E | .reg .h => .bit0_H | .reg .l => .bit0_L | .atHL => .bit0_atHL | .reg .a => .bit0_A
  else if b = 1 then
    match r with
    | .reg .b => .bit1_B | .reg .c => .bit1_C | .reg .d => .bit1_D | .reg .e => .bit1_E | .reg .h => .bit1_H | .reg .l => .bit1_L | .atHL => .bit1_atHL | .reg .a => .bit1_A
  else if b = 2 then
    match r with
    | .reg .b => .bit2_B | .reg .c => .bit2_C | .reg .d => .bit2_D | .reg .e => .bit2_E | .reg .h => .bit2_H | .reg .l => .bit2_L | .atHL => .bit2_atHL | .reg .a => .bit2_A
  else if b = 3 then
    match r with
    | .reg .b => .bit3_B | .reg .c => .bit3_C | .reg .d => .bit3_D | .reg .e => .bit3_E | .reg .h => .bit3_H | .reg .l => .bit3_L | .atHL => .bit3_atHL | .reg .a => .bit3_A
  else if b = 4 then
    match r with
    | .reg .b => .bit4_B | .reg .c => .bit4_C | .reg .d => .bit4_D | .reg .e => .bit4_E | .reg .h => .bit4_H | .reg .l => .bit4_L | .atHL => .bit4_atHL | .reg .a => .bit4_A
  else if b = 5 then
    match r with
    | .reg .b => .bit5_B | .reg .c => .bit5_C | .reg .d => .bit5_D | .reg .e => .bit5_E | .reg .h => .bit5_H | .reg .l => .bit5_L | .atHL => .bit5_atHL | .reg .a => .bit5_A
  else if b = 6 then
    match r with
    | .reg .b => .bit6_B | .reg .c => .bit6_C | .reg .d => .bit6_D | .reg .e => .bit6_E | .reg .h => .bit6_H | .reg .l => .bit6_L | .atHL => .bit6_atHL | .reg .a => .bit6_A
  else
    match r with
    | .reg .b => .bit7_B | .reg .c => .bit7_C | .reg .d => .bit7_D | .reg .e => .bit7_E | .reg .h => .bit7_H | .reg .l => .bit7_L | .atHL => .bit7_atHL | .reg .a => .bit7_A

/-- RES b,r8 (R188, R354). -/
def Instr.res (b : BitVec 3) (r : R8) : Instr :=
  if b = 0 then
    match r with
    | .reg .b => .res0_B | .reg .c => .res0_C | .reg .d => .res0_D | .reg .e => .res0_E | .reg .h => .res0_H | .reg .l => .res0_L | .atHL => .res0_atHL | .reg .a => .res0_A
  else if b = 1 then
    match r with
    | .reg .b => .res1_B | .reg .c => .res1_C | .reg .d => .res1_D | .reg .e => .res1_E | .reg .h => .res1_H | .reg .l => .res1_L | .atHL => .res1_atHL | .reg .a => .res1_A
  else if b = 2 then
    match r with
    | .reg .b => .res2_B | .reg .c => .res2_C | .reg .d => .res2_D | .reg .e => .res2_E | .reg .h => .res2_H | .reg .l => .res2_L | .atHL => .res2_atHL | .reg .a => .res2_A
  else if b = 3 then
    match r with
    | .reg .b => .res3_B | .reg .c => .res3_C | .reg .d => .res3_D | .reg .e => .res3_E | .reg .h => .res3_H | .reg .l => .res3_L | .atHL => .res3_atHL | .reg .a => .res3_A
  else if b = 4 then
    match r with
    | .reg .b => .res4_B | .reg .c => .res4_C | .reg .d => .res4_D | .reg .e => .res4_E | .reg .h => .res4_H | .reg .l => .res4_L | .atHL => .res4_atHL | .reg .a => .res4_A
  else if b = 5 then
    match r with
    | .reg .b => .res5_B | .reg .c => .res5_C | .reg .d => .res5_D | .reg .e => .res5_E | .reg .h => .res5_H | .reg .l => .res5_L | .atHL => .res5_atHL | .reg .a => .res5_A
  else if b = 6 then
    match r with
    | .reg .b => .res6_B | .reg .c => .res6_C | .reg .d => .res6_D | .reg .e => .res6_E | .reg .h => .res6_H | .reg .l => .res6_L | .atHL => .res6_atHL | .reg .a => .res6_A
  else
    match r with
    | .reg .b => .res7_B | .reg .c => .res7_C | .reg .d => .res7_D | .reg .e => .res7_E | .reg .h => .res7_H | .reg .l => .res7_L | .atHL => .res7_atHL | .reg .a => .res7_A

/-- SET b,r8 (R188, R355). -/
def Instr.set (b : BitVec 3) (r : R8) : Instr :=
  if b = 0 then
    match r with
    | .reg .b => .set0_B | .reg .c => .set0_C | .reg .d => .set0_D | .reg .e => .set0_E | .reg .h => .set0_H | .reg .l => .set0_L | .atHL => .set0_atHL | .reg .a => .set0_A
  else if b = 1 then
    match r with
    | .reg .b => .set1_B | .reg .c => .set1_C | .reg .d => .set1_D | .reg .e => .set1_E | .reg .h => .set1_H | .reg .l => .set1_L | .atHL => .set1_atHL | .reg .a => .set1_A
  else if b = 2 then
    match r with
    | .reg .b => .set2_B | .reg .c => .set2_C | .reg .d => .set2_D | .reg .e => .set2_E | .reg .h => .set2_H | .reg .l => .set2_L | .atHL => .set2_atHL | .reg .a => .set2_A
  else if b = 3 then
    match r with
    | .reg .b => .set3_B | .reg .c => .set3_C | .reg .d => .set3_D | .reg .e => .set3_E | .reg .h => .set3_H | .reg .l => .set3_L | .atHL => .set3_atHL | .reg .a => .set3_A
  else if b = 4 then
    match r with
    | .reg .b => .set4_B | .reg .c => .set4_C | .reg .d => .set4_D | .reg .e => .set4_E | .reg .h => .set4_H | .reg .l => .set4_L | .atHL => .set4_atHL | .reg .a => .set4_A
  else if b = 5 then
    match r with
    | .reg .b => .set5_B | .reg .c => .set5_C | .reg .d => .set5_D | .reg .e => .set5_E | .reg .h => .set5_H | .reg .l => .set5_L | .atHL => .set5_atHL | .reg .a => .set5_A
  else if b = 6 then
    match r with
    | .reg .b => .set6_B | .reg .c => .set6_C | .reg .d => .set6_D | .reg .e => .set6_E | .reg .h => .set6_H | .reg .l => .set6_L | .atHL => .set6_atHL | .reg .a => .set6_A
  else
    match r with
    | .reg .b => .set7_B | .reg .c => .set7_C | .reg .d => .set7_D | .reg .e => .set7_E | .reg .h => .set7_H | .reg .l => .set7_L | .atHL => .set7_atHL | .reg .a => .set7_A

/-- The 11 illegal opcodes with their bytes (R193). -/
def Instr.illegals : List (Instr × Byte) :=
  [(.illegalD3, 0xD3), (.illegalDB, 0xDB), (.illegalDD, 0xDD), (.illegalE3, 0xE3), (.illegalE4, 0xE4), (.illegalEB, 0xEB),
   (.illegalEC, 0xEC), (.illegalED, 0xED), (.illegalF4, 0xF4), (.illegalFC, 0xFC), (.illegalFD, 0xFD)]

end Sys2Proof
end

