-- ==== Sys2Proof/Machine/HostEvents.lean ====
section
/-! DEFINITION. What the host does to the machine, between steps only (92_eei_decisions.md D56, D57): buttons, wall clock,
battery RAM, reset, and what it reads. -/

namespace Sys2Proof.Machine

/-- Whether a button is pressed. -/
def buttonOf (x : Buttons) : Button → Bool
  | .up => x.up
  | .down => x.down
  | .left => x.left
  | .right => x.right
  | .a => x.a
  | .b => x.b
  | .start => x.start
  | .select => x.select

/-- A slot's buttons with one set. -/
def setButtonOf (x : Buttons) (k : Button) (pressed : Bool) : Buttons :=
  match k with
  | .up => { x with up := pressed }
  | .down => { x with down := pressed }
  | .left => { x with left := pressed }
  | .right => { x with right := pressed }
  | .a => { x with a := pressed }
  | .b => { x with b := pressed }
  | .start => { x with start := pressed }
  | .select => { x with select := pressed }

/-- The button's group is selected in JOYP: bit 0 of `sel` 0 selects the d-pad, bit 1 of `sel` 0 the buttons (R460). -/
def groupSelected (j : Joypad) (k : Button) : Bool :=
  match k with
  | .up | .down | .left | .right => !j.sel.getLsbD 0
  | .a | .b | .start | .select => !j.sel.getLsbD 1

/-- Another slot's buttons, stored and ignored (R462). -/
def setOtherSlot (slot : Nat) (k : Button) (pressed : Bool) : List (Nat × Buttons) → List (Nat × Buttons)
  | [] => [(slot, setButtonOf noButtons k pressed)]
  | (n, x) :: rest =>
    if n = slot then (n, setButtonOf x k pressed) :: rest else (n, x) :: setOtherSlot slot k pressed rest

/-- The button state of a player slot; a slot with no entry has none pressed (R462). -/
def State.slotButtons (s : State) (slot : Nat) : Buttons :=
  if slot = 0 then s.bus.joypad.slot0 else (s.bus.joypad.others.lookup slot).getD noButtons

/-- `setButton(slot, button, pressed)` (60_exceptions.md R462). -/
def State.setButton (s : State) (slot : Nat) (k : Button) (pressed : Bool) : State :=
  let j := s.bus.joypad
  if slot = 0 then
    let t := { s with bus := { s.bus with joypad := { j with slot0 := setButtonOf j.slot0 k pressed } } }
    if pressed && !buttonOf j.slot0 k && (!s.params.joypadIrqSelected || groupSelected j k) then
      t.requestInterrupt .joypad
    else t
  else { s with bus := { s.bus with joypad := { j with others := setOtherSlot slot k pressed j.others } } }

/-- The wall clock moves on by whole seconds; it never goes back (00_scope.md R10, 21_cartridge.md R156). -/
def State.passSeconds (s : State) (seconds : Nat) : State := { s with wallClock := s.wallClock + seconds }

/-- `getRAM()`: nothing for NoMBC or with no cartridge loaded (21_cartridge.md R175). -/
def State.getRam (s : State) : Option (List Byte) := s.cart.bind Cartridge.getRam

/-- `setRAM(b)` (21_cartridge.md R175). -/
def State.setRam (s : State) (bytes : List Byte) : State := { s with cart := s.cart.map (fun c => c.setRam bytes) }

/-- A reset: a new construction with the same ROM, boot ROM and parameters, at the present wall clock
(70_reset_and_hazards.md R570, D67). -/
def State.restart (s : State) : State := State.construct s.params s.wallClock

/-- The framebuffer interface: row `y` of 0 to 143, column `x` of 0 to 159 (61_video.md R533). -/
def State.viewportPixel (s : State) (y x : Nat) : Shade := Frame.read s.video.viewport y x

/-- The rumble flag the host's motor follows (21_cartridge.md R168). -/
def State.rumbling (s : State) : Bool :=
  match s.cart with
  | some c =>
    match c.mbc with
    | .mbc5 r => r.rumble
    | .noMbc _ | .mbc1 _ | .mbc2 _ | .mbc3 _ => false
  | none => false

end Sys2Proof.Machine
end

