-- ==== Sys2Proof/Safety.lean ====
section
/-! DEFINITION. What counts as a safe run, and the machine's invariant, in the terms the statements use. -/

namespace Sys2Proof

open Sys2Proof.Machine

/-- No error has been raised: the run state is not Faulted (60_exceptions.md R431). -/
abbrev Safe (s : State) : Prop := match s.runState with
  | .running | .halted => True
  | .faulted _ => False

/-- A cartridge is loaded: no bus access can raise `MBCNotLoaded` (20_memory.md R88). -/
abbrev CartLoaded (s : State) : Prop := s.cart.isSome = true

/-- A cartridge's memories are canonical, and its bank registers hold what their writes allow: never 0 where 0 is normalized to 1
(21_cartridge.md R131, R141, R151). -/
abbrev CartWf (c : Cartridge) : Prop :=
  Memory.wf c.ram ∧ match c.mbc with
    | .noMbc arr => CellsWf (Image.byte c.rom) arr
    | .mbc1 r => r.lo5 ≠ 0
    | .mbc2 r => r.bank4 ≠ 0
    | .mbc3 r => r.bank7 ≠ 0
    | .mbc5 _ => True

/-- Every memory of the state is in its canonical form. -/
abbrev MemWf (s : State) : Prop :=
  Memory.wf s.bus.flat ∧ Memory.wf s.bus.audio.regs ∧ Memory.wf s.video.vram ∧ Memory.wf s.video.oam ∧
    Frame.wf s.video.lines ∧ Frame.wf s.video.viewport ∧ ∀ c ∈ s.cart, CartWf c

/-- While the engine has the LCD off, it is pinned to line 0, cycle 0, HBlank (61_video.md R511). -/
abbrev VideoPinned (v : Video) : Prop :=
  v.ly = 0 ∧ v.lineCycle = 0 ∧ v.mode = .hblank ∧ v.winLine = 0 ∧ v.winYLatch = false ∧ v.winDrawn = false ∧
    v.spriteBuf = []

/-- While the LCD is on, the mode follows the line and the line cycle (61_video.md R513, R517, R518). -/
abbrev ModeFollows (v : Video) : Prop :=
  if 144 ≤ v.ly then v.mode = .vblank
  else if v.lineCycle < 80 then v.mode = .oamScan
  else if v.lineCycle < v.drawEnd then v.mode = .draw
  else v.mode = .hblank

/-- The video engine's counters are in the ranges of 61_video.md R500, and its mode is as its line cycle says. -/
abbrev VideoWf (v : Video) : Prop :=
  v.ly ≤ 153 ∧ v.lineCycle ≤ 455 ∧ 252 ≤ v.drawEnd ∧ v.drawEnd ≤ 455 ∧ v.spriteBuf.length ≤ 10 ∧ v.winLine ≤ v.ly ∧
    (144 ≤ v.ly → v.winLine = 0 ∧ v.winDrawn = false) ∧
    (if v.lcdActive then ModeFollows v else VideoPinned v)

/-- The machine's invariant: the parameters in their ranges; F's low nibble 0 (10_state.md R31); no halt bug armed without
`HALT_BUG` (R39); the overlay active only with a boot ROM (20_memory.md R74); every memory canonical; the timer's accumulators
below their periods (60_exceptions.md R450, R455); the video engine as `VideoWf` says. -/
abbrev Inv (s : State) : Prop :=
  s.params.inRange ∧ s.regs.f &&& 0x0F = 0 ∧ (s.haltBugArmed = true → s.params.haltBug = true) ∧
    (s.bus.bootActive = true → s.params.bootRom.isSome = true) ∧ MemWf s ∧ s.bus.timer.divAcc < 256 ∧
    s.bus.timer.timaAcc < 1024 ∧ VideoWf s.video

/-! ### When a bus access raises nothing, and what a write touches -/

/-- A bus read of `a` raises nothing: a cartridge is loaded, or the boot overlay answers, or the address is not the cartridge's
(20_memory.md R72, R88). -/
abbrev CanRead (s : State) (a : Word) : Prop := CartLoaded s ∨ overlaid s a = true ∨ route s.params a ≠ .cart

/-- The address of byte `i` of the DMA page `page` (60_exceptions.md R470). -/
def dmaSource (page : Byte) (i : Nat) : Word := BitVec.ofNat 16 (page.toNat * 256 + i)

/-- A bus write of `v` at `a` raises nothing: a cartridge is loaded, or the address is not the cartridge's and, where it is DMA,
none of the 160 reads misses the cartridge (20_memory.md R73, R88; 60_exceptions.md R470). -/
abbrev CanWrite (s : State) (a : Word) (v : Byte) : Prop :=
  CartLoaded s ∨ (route s.params a ≠ .cart ∧ (a = 0xFF46 → ∀ i : Nat, i < 160 → CanRead s (dmaSource v i)))

/-- The state a bus write leaves. -/
def Machine.State.afterWrite (s : State) (a : Word) (v : Byte) : State := (memWrite s a v).state

/-- The state a push of `v` leaves: the high byte at SP - 1, then the low byte at SP - 2, which SP keeps (00_scope.md R15). -/
def Machine.State.afterPush (s : State) (v : Word) : State :=
  ((((s.setSp (s.regs.sp - 1)).afterWrite (s.regs.sp - 1) (hiByte v)).setSp (s.regs.sp - 2)).afterWrite (s.regs.sp - 2)
    (loByte v))

/-- Both bytes of a push raise nothing. -/
abbrev CanPush (s : State) (v : Word) : Prop :=
  CanWrite s (s.regs.sp - 1) (hiByte v) ∧ CanWrite s (s.regs.sp - 2) (loByte v)

/-- The state a pop leaves: two reads, SP two higher (00_scope.md R15). -/
def Machine.State.afterPop (s : State) : State :=
  ((s.afterRead s.regs.sp).afterRead (s.regs.sp + 1)).setSp (s.regs.sp + 2)

/-- Both reads of a pop raise nothing. -/
abbrev CanPop (s : State) : Prop := CanRead s s.regs.sp ∧ CanRead s (s.regs.sp + 1)

/-- The word on top of the stack (00_scope.md R15). -/
def Machine.State.topWord (s : State) : Word := joinBytes (s.peek (s.regs.sp + 1)) (s.peek s.regs.sp)

/-! ### The states an access that raises `MBCNotLoaded` leaves (60_exceptions.md R431) -/

/-- The address of the access that misses the cartridge in a write of `v` at `a`: the address itself; for DMA, the page's first
byte, whose read comes first (60_exceptions.md R470). -/
def missedAddr (a : Word) (v : Byte) : Word := if a = 0xFF46 then dmaSource v 0 else a

/-- Faulted by a read of `a`. -/
def Machine.State.readMissed (s : State) (a : Word) : State := (s.afterRead a).raise (.mbcNotLoaded a)

/-- Faulted by a write of `v` at `a`. -/
def Machine.State.writeMissed (s : State) (a : Word) (v : Byte) : State :=
  (s.afterWrite a v).raise (.mbcNotLoaded (missedAddr a v))

/-- Faulted by a push of `v`: by its first write, or by its second with the first byte written. -/
def Machine.State.pushMissed (s : State) (v : Word) : State :=
  let s1 := s.setSp (s.regs.sp - 1)
  if CanWrite s (s.regs.sp - 1) (hiByte v) then
    ((s1.afterWrite (s.regs.sp - 1) (hiByte v)).setSp (s.regs.sp - 2)).writeMissed (s.regs.sp - 2) (loByte v)
  else s1.writeMissed (s.regs.sp - 1) (hiByte v)

/-- Faulted by a pop: by its first read, or by its second. -/
def Machine.State.popMissed (s : State) : State :=
  if CanRead s s.regs.sp then ((s.afterRead s.regs.sp).setSp (s.regs.sp + 1)).readMissed (s.regs.sp + 1)
  else s.readMissed s.regs.sp

/-- One read then one write of `w` at HL raise nothing (30_encoding.md R198). -/
abbrev CanModify (s : State) (w : Byte) : Prop := CanRead s s.hl ∧ CanWrite s s.hl w

/-- The state one read then one write of `w` at HL leave. -/
def Machine.State.afterModify (s : State) (w : Byte) : State := (s.afterRead s.hl).afterWrite s.hl w

/-- Faulted by the read or by the write of a read and write of `w` at HL. -/
def Machine.State.modifyMissed (s : State) (w : Byte) : State :=
  if CanRead s s.hl then (s.afterRead s.hl).writeMissed s.hl w else s.readMissed s.hl

/-- The bytes `b` whose reading a bus write of `v` at `a` may change (20_memory.md R73, R83): the byte itself and the addresses
that share its storage; in a cartridge with a controller, the cartridge's windows, but not its ROM for a write to its RAM; for
DMA, OAM, and with page 1 the overlay that a read of 0x0100 retires; for NR52, the audio registers. -/
def Touches (s : State) (a : Word) (v : Byte) (b : Word) : Prop :=
  match route s.params a with
  | .cart =>
    b = a ∨ (route s.params b = .cart ∧ (0xA000 ≤ a → 0xA000 ≤ b) ∧
      match s.cart.map Cartridge.mbc with
      | some (.noMbc _) => False
      | _ => True)
  | .io .dma => b = a ∨ (0xFE00 ≤ b ∧ b ≤ 0xFE9F) ∨ (v = 0x01 ∧ b ≤ 0x00FF)
  | .io .nr52 => b = a ∨ (0xFF10 ≤ b ∧ b ≤ 0xFF25)
  | .vram i => route s.params b = .vram i
  | .oam i => route s.params b = .oam i
  | .io r => route s.params b = .io r
  | .ie => b = a
  | .flat i => route s.params b = .flat i

/-! ### The bytes of the next instruction -/

/-- The address the fetch of byte `k` of the next instruction reads: pc + k; with the halt bug armed, the opcode's address counts
for the byte after it too (10_state.md R39). -/
def Machine.State.fetchAddr (s : State) (k : Nat) : Word :=
  s.regs.pc + BitVec.ofNat 16 (if s.haltBugArmed then k - 1 else k)

/-- The state the fetch of `n` bytes, the opcode the first, leaves: the `n` reads in order, pc past them, the opcode's address kept,
no halt bug armed. -/
def Machine.State.afterFetch (s : State) (n : Nat) : State :=
  let t := (List.range n).foldl (fun t k => t.afterRead (s.fetchAddr k)) s
  { t with regs := { t.regs with pc := s.fetchAddr n }, opcodeAddr := s.regs.pc, haltBugArmed := false }

/-- The three bytes at the next fetch. -/
def Machine.State.nextBytes (s : State) : List Byte :=
  [s.peek (s.fetchAddr 0), s.peek (s.fetchAddr 1), s.peek (s.fetchAddr 2)]

end Sys2Proof
end

