-- ==== Sys2Proof/WellFormed.lean ====
section
/-! DEFINITION. Which terms of `Instr` are whole instructions. -/

namespace Sys2Proof

/-- Every constructor but the prefix is a whole instruction with every operand value its encoding has: the operands' types
have exactly the encodings' widths (30_encoding.md R190). PREFIX CB alone is not one: its fetch is the first half of decoding
an extended instruction (46_system.md R415). DEDUCED (log entry 9), safe. -/
def Instr.wellFormed (i : Instr) : Bool := decide (i ≠ .prefixCB)

end Sys2Proof
end

