-- ==== Sys2Proof/Certificates/Slice0/Obligations.lean ====
section
/-! DEFINITION. The statements for the provers, from the numbered rules of the spec: encoding, the step, registers and loads,
arithmetic, control transfers, memory and devices, whole-machine rules, reset. Where an access misses the cartridge, a statement gives
the Faulted state of R431; that `exec` answers it as a next state is the model's choice, log entry 1. -/

open Sys2Proof Sys2Proof.Machine

/-! ### Encoding (30_encoding.md) -/

/-- Words written out from the opcode maps R191 and R192 and the formats of R180 decode to the instructions they stand for. -/
def Obligations.WrittenWordsDecode : Prop :=
  decode [0b01000001] = .ok (.ldB_C, []) ∧ decode [0b00111110, 0x7F] = .ok (.ldA_n 0x7F, []) ∧
  decode [0b00110001, 0xFE, 0xFF] = .ok (.ldSP_nn 0xFFFE, []) ∧ decode [0b11000101] = .ok (.pushBC, []) ∧
  decode [0b10000110] = .ok (.addA_atHL, []) ∧ decode [0b11101110, 0x0F] = .ok (.xor_n 0x0F, []) ∧
  decode [0b00001001] = .ok (.addHL_BC, []) ∧ decode [0b11101000, 0x08] = .ok (.addSP_e 0x08, []) ∧
  decode [0b00000111] = .ok (.rlca, []) ∧ decode [0b11001011, 0b01111100] = .ok (.bit7_H, []) ∧
  decode [0b11001101, 0x34, 0x12] = .ok (.call_nn 0x1234, []) ∧ decode [0b00111000, 0xFC] = .ok (.jrC_e 0xFC, []) ∧
  decode [0b01110110] = .ok (.halt, []) ∧ decode [0b00010000, 0x00] = .ok (.stop 0x00, []) ∧
  decode [0b11010011] = .ok (.illegalD3, []) ∧ decode [0xCB, 0xCB] = .ok (.set1_E, [])

/-- Decoding and encoding agree, both ways: decoding the encoding of a whole instruction, whatever follows it, gives the instruction
back with every operand, and the bytes that follow; and the instruction decoded from any three bytes is a whole one whose encoding
is exactly as many of them as the length, which the first byte alone gives (R180, R181, R190 to R195). -/
def Obligations.DecodeAndEncodeAgree : Prop :=
  (∀ (i : Instr) (rest : List Byte), i.wellFormed = true → decode (encode i ++ rest) = .ok (i, rest)) ∧
  ∀ op b1 b2 : Byte,
    (instrLength op = 1 ∨ instrLength op = 2 ∨ instrLength op = 3) ∧ (decodeBytes op b1 b2).wellFormed = true ∧
    encode (decodeBytes op b1 b2) = [op, b1, b2].take (instrLength op)

/-- The operand fields of the opcode maps, as R182 to R189 place them and the structure of R191 names the blocks; the conditions
and the RST targets. -/
def Obligations.OpcodeFields : Prop :=
  (∀ (d k : R8) (n m : Byte),
    decodeBytes (0b01#2 ++ r8Bits d ++ r8Bits k) n m = .ldR8 d k ∧
    decodeBytes (0b00#2 ++ r8Bits d ++ 0b110#3) n m = .ldImm d n ∧
    decodeBytes (0b00#2 ++ r8Bits d ++ 0b100#3) n m = .incR8 d ∧
    decodeBytes (0b00#2 ++ r8Bits d ++ 0b101#3) n m = .decR8 d) ∧
  (∀ (r : Pair) (n m : Byte),
    decodeBytes (0b00#2 ++ pairBits r ++ 0b0001#4) n m = .ldPair r (m ++ n) ∧
    decodeBytes (0b00#2 ++ pairBits r ++ 0b1001#4) n m = .addHl r ∧
    decodeBytes (0b00#2 ++ pairBits r ++ 0b0011#4) n m = .incPair r ∧
    decodeBytes (0b00#2 ++ pairBits r ++ 0b1011#4) n m = .decPair r) ∧
  (∀ (r : StackPair) (n m : Byte),
    decodeBytes (0b11#2 ++ stackPairBits r ++ 0b0101#4) n m = .push r ∧
    decodeBytes (0b11#2 ++ stackPairBits r ++ 0b0001#4) n m = .pop r) ∧
  (∀ (p : MemPair) (n m : Byte),
    decodeBytes (0b00#2 ++ memPairBits p ++ 0b0010#4) n m = .ldATo p ∧
    decodeBytes (0b00#2 ++ memPairBits p ++ 0b1010#4) n m = .ldAFrom p) ∧
  (∀ (cc : Cond) (n m : Byte),
    decodeBytes (0b001#3 ++ condBits cc ++ 0b000#3) n m = .jrIf cc n ∧
    decodeBytes (0b110#3 ++ condBits cc ++ 0b010#3) n m = .jpIf cc (m ++ n) ∧
    decodeBytes (0b110#3 ++ condBits cc ++ 0b100#3) n m = .callIf cc (m ++ n) ∧
    decodeBytes (0b110#3 ++ condBits cc ++ 0b000#3) n m = .retIf cc) ∧
  (∀ x : Flags, condHolds .nz x = !x.z ∧ condHolds .z x = x.z ∧ condHolds .nc x = !x.c ∧ condHolds .c x = x.c) ∧
  (∀ (o : AluOp) (k : R8) (n m : Byte),
    decodeBytes (0b10#2 ++ aluBits o ++ r8Bits k) n m = .alu o k ∧
    decodeBytes (0b11#2 ++ aluBits o ++ 0b110#3) n m = .aluImm o n) ∧
  (∀ (o : RotOp) (y : BitVec 3) (k : R8) (m : Byte),
    decodeBytes 0xCB (0b00#2 ++ rotBits o ++ r8Bits k) m = .rot o k ∧
    decodeBytes 0xCB (0b01#2 ++ y ++ r8Bits k) m = .bit y k ∧
    decodeBytes 0xCB (0b10#2 ++ y ++ r8Bits k) m = .res y k ∧
    decodeBytes 0xCB (0b11#2 ++ y ++ r8Bits k) m = .set y k) ∧
  (∀ (t : BitVec 3) (n m : Byte), decodeBytes (0b11#2 ++ t ++ 0b111#3) n m = .rst t ∧ (rstTarget t).toNat = 8 * t.toNat)

/-- The 11 illegal opcodes, and no other first byte, decode to an illegal instruction. It raises `IllegalOpcode` with the opcode
byte and the address kept of its fetch; a step that fetches one raises it with the address fetched from, which is pc - 1 after the
fetch, but pc where the halt bug kept it. Nothing but the fetch changes the machine, no device advances, no interrupt phase runs, and
every later step raises the same error (R193, R416, R431, R440). The model's choices: how the error leaves the step, log entry 1;
the address with the halt bug, log entry 18; the field that keeps the address, log entry 23. -/
def Obligations.IllegalOpcodesFault : Prop :=
  Instr.illegals.map Prod.snd = [0xD3, 0xDB, 0xDD, 0xE3, 0xE4, 0xEB, 0xEC, 0xED, 0xF4, 0xFC, 0xFD] ∧
  (∀ op b1 b2 : Byte, decodeBytes op b1 b2 ∈ Instr.illegals.map Prod.fst ↔ op ∈ Instr.illegals.map Prod.snd) ∧
  ∀ p ∈ Instr.illegals, ∀ (s : State) (pending : Bool),
    encode p.1 = [p.2] ∧
    exec p.1 s = .next { s with runState := .faulted (.illegalOpcode p.2 s.opcodeAddr) } ∧
    finishStep pending (exec p.1 s) = exec p.1 s ∧
    (∀ a, step { s with runState := .faulted (.illegalOpcode p.2 a) } = .fault (.illegalOpcode p.2 a)) ∧
    (s.runState = .running → CanRead s s.regs.pc → s.peek s.regs.pc = p.2 →
      step s = .next { s.afterFetch 1 with runState := .faulted (.illegalOpcode p.2 s.regs.pc) } ∧
      (s.haltBugArmed = false → (s.afterFetch 1).regs.pc - 1 = s.regs.pc) ∧
      (s.haltBugArmed = true → (s.afterFetch 1).regs.pc = s.regs.pc))

/-! ### The step (60_exceptions.md R430 to R439) -/

/-- In the Running state, where the bytes at pc decode to `i` and no fetch misses the cartridge, the step is `exec i` at the state
the fetch leaves (the reads done, pc past the instruction, no halt bug armed) and then the phases after the execution. A fetch of
the first, second or third byte that misses the cartridge ends the step Faulted, with pc past the bytes fetched before it (R430,
R181, R34, R431). The model's choices: every byte is fetched before the first other effect, log entry 10; how the error leaves the
step, log entry 1. -/
def Obligations.StepRunsDecodedInstruction : Prop :=
  ∀ s : State, s.runState = .running →
    (∀ (i : Instr) (rest : List Byte), decode s.nextBytes = .ok (i, rest) →
      (∀ k < 3 - rest.length, CanRead s (s.fetchAddr k)) →
        step s = finishStep s.imePending (exec i (s.afterFetch (3 - rest.length)))) ∧
    (¬ CanRead s s.regs.pc → step s = .next (s.readMissed s.regs.pc)) ∧
    ∀ k, 1 ≤ k → k < instrLength (s.peek s.regs.pc) → (∀ j < k, CanRead s (s.fetchAddr j)) → ¬ CanRead s (s.fetchAddr k) →
      step s = .next ((s.afterFetch k).readMissed (s.fetchAddr k))

/-- The phases around the execution, in order: the EI delay, the devices by the instruction's cycles, the interrupt phase; none of
them after an error. Halted, a step fetches nothing, leaves pc and counts 4 cycles; Faulted, it raises the kept error (R430,
R431, R411). The model's choice: how an error leaves a step, log entry 1. -/
def Obligations.StepPhasesInOrder : Prop :=
  ∀ (s : State) (p : Bool),
    (s.runState = .halted → step s = finishStep s.imePending (.next { s with cycles := 4 })) ∧
    (∀ e, s.runState = .faulted e → step s = .fault e ∧ finishStep p (.next s) = .next s) ∧
    (Safe s → finishStep p (.next s) =
      .next (interruptPhase (videoAdvance s.cycles (timerAdvance s.cycles (eiDelay p s)))))

/-- EI sets `ime_pending` alone; the step of the next instruction sets IME after it, unless that instruction cleared
`ime_pending`; DI clears both (R413, R414). -/
def Obligations.EiDelaysByOneInstruction : Prop :=
  ∀ s : State,
    encode .ei = [0xFB] ∧ encode .di = [0xF3] ∧
    exec .ei s = .next { s with imePending := true, cycles := 4 } ∧
    exec .di s = .next { s with ime := false, imePending := false, cycles := 4 } ∧
    eiDelay false s = s ∧
    (s.imePending = true → eiDelay true s = { s with ime := true, imePending := false }) ∧
    (s.imePending = false → eiDelay true s = s) ∧
    (s.runState = .running → CanRead s s.regs.pc → s.peek s.regs.pc = 0xFB →
      step s = finishStep s.imePending (.next { s.afterFetch 1 with imePending := true, cycles := 4 }))

/-- The interrupt phase: nothing without a pending source; a pending source wakes a Halted CPU whatever IME is; with IME 0 nothing
more happens; with IME 1 the lowest pending source is dispatched, whose 20 cycles the devices run and the step counts (R430, R435,
R436, R438). The model's choice: after a dispatch whose push raises an error no device phase follows, log entry 20. -/
def Obligations.InterruptPhaseWakesAndDispatches : Prop :=
  ∀ s : State,
    (s.pendingIrqs = 0 → interruptPhase s = s) ∧
    (s.pendingIrqs ≠ 0 → s.ime = false →
      interruptPhase s = if s.runState = .halted then { s with runState := .running } else s) ∧
    (∀ k, s.firstIrq = some k ↔
      s.pendingIrqs.getLsbD (irqBit k) = true ∧ ∀ j < irqBit k, s.pendingIrqs.getLsbD j = false) ∧
    (∀ b < 5, s.pendingIrqs.getLsbD b = (s.bus.ieReg.getLsbD b && s.bus.ifReg.getLsbD b)) ∧
    (∀ k, s.firstIrq = some k → s.ime = true →
      (∀ t, dispatch k s.wake = .ok () t → interruptPhase s = advanceDevices 20 { t with cycles := s.cycles + 20 }) ∧
      (∀ e t, dispatch k s.wake = .error e t → interruptPhase s = t.raise e))

/-- Dispatch clears IME, pushes pc, clears the source's bit in IF and goes to 0x0040 + 8k, keeping everything else; a push that
misses the cartridge raises `MBCNotLoaded` with IME already clear. In the interrupt phase, which first wakes a Halted CPU, it costs
20 cycles (R436, R437). The model's choice: the state a dispatch leaves whose push raises an error, log entry 20. -/
def Obligations.DispatchTakesTheInterrupt : Prop :=
  ∀ (s : State) (k : Irq),
    let t := ({ s with ime := false } : State).afterPush s.regs.pc
    (irqVector k).toNat = 0x40 + 8 * irqBit k ∧
    (CanPush s s.regs.pc → dispatch k s = .ok ()
      { t with
        regs := { t.regs with pc := irqVector k }
        bus := { t.bus with ifReg := t.bus.ifReg &&& ~~~(1#5 <<< irqBit k) } }) ∧
    (¬ CanPush s s.regs.pc → ∃ e u, dispatch k s = .error e u ∧ u.raise e = ({ s with ime := false } : State).pushMissed s.regs.pc) ∧
    (s.ime = true → s.firstIrq = some k → CanPush s s.regs.pc →
      interruptPhase s = advanceDevices 20 { t with
        regs := { t.regs with pc := irqVector k }
        bus := { t.bus with ifReg := t.bus.ifReg &&& ~~~(1#5 <<< irqBit k) }
        runState := if s.runState = .halted then .running else s.runState
        cycles := s.cycles + 20 })

/-! ### Registers (10_state.md R30 to R36) -/

/-- The seven registers are independent bytes; the pairs are two registers, the first-named the high byte, with no storage of their
own; SP is a register of its own; F holds Z, N, H and C in bits 7 to 4 and 0 in bits 3 to 0, and writing the flags writes no other
register (R30, R31, R32). -/
def Obligations.RegistersPairsAndFlags : Prop :=
  (∀ (s : State) (r q : Reg8) (v : Byte),
    (s.setReg r v).getReg q = (if q = r then v else s.getReg q) ∧ (s.setReg r v).regs.sp = s.regs.sp ∧
    (s.setReg r v).regs.pc = s.regs.pc ∧ (s.setReg r v).regs.f = s.regs.f) ∧
  (∀ s : State,
    (s.getPair .bc).toNat = s.regs.b.toNat * 256 + s.regs.c.toNat ∧
    (s.getPair .de).toNat = s.regs.d.toNat * 256 + s.regs.e.toNat ∧
    (s.getPair .hl).toNat = s.regs.h.toNat * 256 + s.regs.l.toNat ∧ s.hl = s.getPair .hl ∧
    (s.getStackPair .af).toNat = s.regs.a.toNat * 256 + s.regs.f.toNat ∧ s.getPair .sp = s.regs.sp) ∧
  (∀ (s : State) (v : Word),
    let hi := BitVec.ofNat 8 (v.toNat / 256)
    let lo := BitVec.ofNat 8 v.toNat
    s.setPair .bc v = (s.setReg .b hi).setReg .c lo ∧ s.setPair .de v = (s.setReg .d hi).setReg .e lo ∧
    s.setPair .hl v = (s.setReg .h hi).setReg .l lo ∧ s.setPair .sp v = { s with regs := { s.regs with sp := v } } ∧
    s.setStackPair .af v = { s.setReg .a hi with regs := { (s.setReg .a hi).regs with f := lo &&& 0xF0 } }) ∧
  (∀ x : Flags, (flagsToByte x).toNat = 128 * x.z.toNat + 64 * x.n.toNat + 32 * x.h.toNat + 16 * x.c.toNat) ∧
  (∀ (s : State) (x : Flags), (s.setFlags x).flags = x ∧ (s.setFlags x).regs.f &&& 0x0F = 0 ∧
    s.setFlags x = { s with regs := { s.regs with f := flagsToByte x } }) ∧
  ∀ s : State, s.flags =
    { z := s.regs.f.getLsbD 7, n := s.regs.f.getLsbD 6, h := s.regs.f.getLsbD 5, c := s.regs.f.getLsbD 4 }

/-- IME becomes 1 only by RETI, and `ime_pending` only by EI: no other instruction sets either (R36, R38). -/
def Obligations.OnlyRetiAndEiEnable : Prop :=
  ∀ (i : Instr) (s t : State), exec i s = .next t →
    (t.ime = true → s.ime = true ∨ i = .reti) ∧ (t.imePending = true → s.imePending = true ∨ i = .ei)

/-! ### Loads (40_load8.md, 41_load16_stack.md) -/

/-- LD r,r' copies the register in 4 cycles, LD r,n the immediate in 8; nothing else changes (R220, R221). -/
def Obligations.LoadRegister : Prop :=
  ∀ (r q : Reg8) (n : Byte) (s : State),
    encode (.ldR8 (.reg r) (.reg q)) = [0b01#2 ++ r8Bits (.reg r) ++ r8Bits (.reg q)] ∧
    exec (.ldR8 (.reg r) (.reg q)) s = .next { s.setReg r (s.getReg q) with cycles := 4 } ∧
    encode (.ldImm (.reg r) n) = [0b00#2 ++ r8Bits (.reg r) ++ 0b110#3, n] ∧
    exec (.ldImm (.reg r) n) s = .next { s.setReg r n with cycles := 8 }

/-- The loads from memory: the register takes the byte a bus read of the address gives, HL steps after (HL+) and (HL-), and nothing
else changes but what the read itself does; a read that misses the cartridge raises `MBCNotLoaded` (R222, R225, R226, R229, R231,
R233, R237, R238). -/
def Obligations.LoadFromMemory : Prop :=
  ∀ (s : State) (r : Reg8) (p : MemPair) (nn : Word) (n : Byte),
    encode (.ldR8 (.reg r) .atHL) = [0b01#2 ++ r8Bits (.reg r) ++ 0b110#3] ∧
    (CanRead s s.hl → exec (.ldR8 (.reg r) .atHL) s =
      .next { (s.afterRead s.hl).setReg r (s.peek s.hl) with cycles := 8 }) ∧
    (¬ CanRead s s.hl → exec (.ldR8 (.reg r) .atHL) s = .next (s.readMissed s.hl)) ∧
    (s.memPairAddr .bc = s.getPair .bc ∧ s.memPairAddr .de = s.getPair .de ∧ s.memPairAddr .hlInc = s.hl ∧
      s.memPairAddr .hlDec = s.hl ∧ s.stepMemPair .bc = s ∧ s.stepMemPair .de = s ∧
      s.stepMemPair .hlInc = s.setPair .hl (s.hl + 1) ∧ s.stepMemPair .hlDec = s.setPair .hl (s.hl - 1)) ∧
    encode (.ldAFrom p) = [0b00#2 ++ memPairBits p ++ 0b1010#4] ∧
    (CanRead s (s.memPairAddr p) → exec (.ldAFrom p) s =
      .next { ((s.afterRead (s.memPairAddr p)).setReg .a (s.peek (s.memPairAddr p))).stepMemPair p with cycles := 8 }) ∧
    (¬ CanRead s (s.memPairAddr p) → exec (.ldAFrom p) s = .next (s.readMissed (s.memPairAddr p))) ∧
    encode (.ldA_atNN nn) = [0xFA, loByte nn, hiByte nn] ∧
    (CanRead s nn → exec (.ldA_atNN nn) s = .next { (s.afterRead nn).setReg .a (s.peek nn) with cycles := 16 }) ∧
    (¬ CanRead s nn → exec (.ldA_atNN nn) s = .next (s.readMissed nn)) ∧
    encode (.ldhA_atN n) = [0xF0, n] ∧
    exec (.ldhA_atN n) s =
      .next { s.setReg .a (s.peek (0xFF00 + n.setWidth 16)) with cycles := 12 } ∧
    encode .ldhA_atC = [0xF2] ∧
    exec .ldhA_atC s = .next { s.setReg .a (s.peek (0xFF00 + s.regs.c.setWidth 16)) with cycles := 8 }

/-- The stores: one bus write of the value at the address, HL stepped after (HL+) and (HL-), no other register and no flag changed;
a write that misses the cartridge raises `MBCNotLoaded` and steps no HL (R223, R224, R227, R228, R230, R232, R234 to R236, R470).
The model's choice: LDH (n),A and LDH (C),A raise it too, from the copy a write to DMA starts, log entry 11. -/
def Obligations.StoreToMemory : Prop :=
  ∀ (s : State) (r : Reg8) (p : MemPair) (nn : Word) (n : Byte),
    encode (.ldR8 .atHL (.reg r)) = [0b01110#5 ++ r8Bits (.reg r)] ∧
    (CanWrite s s.hl (s.getReg r) → exec (.ldR8 .atHL (.reg r)) s =
      .next { s.afterWrite s.hl (s.getReg r) with cycles := 8 }) ∧
    (¬ CanWrite s s.hl (s.getReg r) → exec (.ldR8 .atHL (.reg r)) s = .next (s.writeMissed s.hl (s.getReg r))) ∧
    encode (.ldAtHL_n n) = [0x36, n] ∧
    (CanWrite s s.hl n → exec (.ldAtHL_n n) s = .next { s.afterWrite s.hl n with cycles := 12 }) ∧
    (¬ CanWrite s s.hl n → exec (.ldAtHL_n n) s = .next (s.writeMissed s.hl n)) ∧
    encode (.ldATo p) = [0b00#2 ++ memPairBits p ++ 0b0010#4] ∧
    (CanWrite s (s.memPairAddr p) s.regs.a → exec (.ldATo p) s =
      .next { (s.afterWrite (s.memPairAddr p) s.regs.a).stepMemPair p with cycles := 8 }) ∧
    (¬ CanWrite s (s.memPairAddr p) s.regs.a →
      exec (.ldATo p) s = .next (s.writeMissed (s.memPairAddr p) s.regs.a)) ∧
    encode (.ldAtNN_A nn) = [0xEA, loByte nn, hiByte nn] ∧
    (CanWrite s nn s.regs.a → exec (.ldAtNN_A nn) s = .next { s.afterWrite nn s.regs.a with cycles := 16 }) ∧
    (¬ CanWrite s nn s.regs.a → exec (.ldAtNN_A nn) s = .next (s.writeMissed nn s.regs.a)) ∧
    encode (.ldhAtN_A n) = [0xE0, n] ∧
    (CanWrite s (highPage n) s.regs.a → exec (.ldhAtN_A n) s =
      .next { s.afterWrite (highPage n) s.regs.a with cycles := 12 }) ∧
    (¬ CanWrite s (highPage n) s.regs.a → exec (.ldhAtN_A n) s = .next (s.writeMissed (highPage n) s.regs.a)) ∧
    encode .ldhAtC_A = [0xE2] ∧
    (CanWrite s (highPage s.regs.c) s.regs.a → exec .ldhAtC_A s =
      .next { s.afterWrite (highPage s.regs.c) s.regs.a with cycles := 8 }) ∧
    (¬ CanWrite s (highPage s.regs.c) s.regs.a →
      exec .ldhAtC_A s = .next (s.writeMissed (highPage s.regs.c) s.regs.a)) ∧
    (highPage n).toNat = 0xFF00 + n.toNat

/-- LD rr,nn and LD SP,HL set the pair; LD HL,SP+e adds the signed byte and takes H and C from the unsigned sum of the low bytes;
LD (nn),SP writes the low byte at nn, then the high byte at nn + 1 (R260, R261, R262, R266). -/
def Obligations.LoadWords : Prop :=
  ∀ (s : State) (r : Pair) (nn : Word) (e : Byte),
    encode (.ldPair r nn) = [0b00#2 ++ pairBits r ++ 0b0001#4, loByte nn, hiByte nn] ∧
    exec (.ldPair r nn) s = .next { s.setPair r nn with cycles := 12 } ∧
    encode (.ldHL_SPe e) = [0xF8, e] ∧ encode (.ldAtNN_SP nn) = [0x08, loByte nn, hiByte nn] ∧
    encode .ldSP_HL = [0xF9] ∧
    exec .ldSP_HL s = .next { s.setPair .sp s.hl with cycles := 8 } ∧
    exec (.ldHL_SPe e) s = .next
      { (s.setPair .hl (BitVec.ofInt 16 (s.regs.sp.toNat + e.toInt))).setFlags
          { z := false, n := false, h := decide (15 < s.regs.sp.toNat % 16 + e.toNat % 16),
            c := decide (255 < s.regs.sp.toNat % 256 + e.toNat) } with cycles := 12 } ∧
    (CanWrite s nn (loByte s.regs.sp) →
      (CanWrite (s.afterWrite nn (loByte s.regs.sp)) (nn + 1) (hiByte s.regs.sp) → exec (.ldAtNN_SP nn) s = .next
        { (s.afterWrite nn (loByte s.regs.sp)).afterWrite (nn + 1) (hiByte s.regs.sp) with cycles := 20 }) ∧
      (¬ CanWrite (s.afterWrite nn (loByte s.regs.sp)) (nn + 1) (hiByte s.regs.sp) → exec (.ldAtNN_SP nn) s = .next
        ((s.afterWrite nn (loByte s.regs.sp)).writeMissed (nn + 1) (hiByte s.regs.sp)))) ∧
    (¬ CanWrite s nn (loByte s.regs.sp) → exec (.ldAtNN_SP nn) s = .next (s.writeMissed nn (loByte s.regs.sp))) ∧
    (loByte nn).toNat = nn.toNat % 256 ∧ (hiByte nn).toNat = nn.toNat / 256

/-- PUSH writes the pair's high byte at SP - 1, then its low byte at SP - 2, and leaves SP - 2; no other register and no flag
changes; F's low nibble 0 is pushed as 0 (R263). -/
def Obligations.PushWritesTheStack : Prop :=
  ∀ (s : State) (r : StackPair),
    let v := s.getStackPair r
    encode (.push r) = [0b11#2 ++ stackPairBits r ++ 0b0101#4] ∧
    (CanPush s v → exec (.push r) s = .next { s.afterPush v with cycles := 16 } ∧
      (s.afterPush v).regs = { s.regs with sp := s.regs.sp - 2 } ∧
      s.afterPush v = ((((s.setSp (s.regs.sp - 1)).afterWrite (s.regs.sp - 1) (hiByte v)).setSp (s.regs.sp - 2)).afterWrite
        (s.regs.sp - 2) (loByte v))) ∧
    (¬ CanPush s v → exec (.push r) s = .next (s.pushMissed v)) ∧
    (s.regs.f &&& 0x0F = 0 → loByte (s.getStackPair .af) &&& 0x0F = 0)

/-- POP reads the low byte at SP and the high byte at SP + 1 into the pair and leaves SP + 2; POP AF keeps F's low nibble 0; no
other register changes (R264, R265). -/
def Obligations.PopReadsTheStack : Prop :=
  ∀ (s : State) (r : StackPair),
    encode (.pop r) = [0b11#2 ++ stackPairBits r ++ 0b0001#4] ∧
    s.topWord.toNat = (s.peek (s.regs.sp + 1)).toNat * 256 + (s.peek s.regs.sp).toNat ∧
    (CanPop s → exec (.pop r) s = .next { s.afterPop.setStackPair r s.topWord with cycles := 12 } ∧
      s.afterPop.regs = { s.regs with sp := s.regs.sp + 2 } ∧
      s.afterPop = ((s.afterRead s.regs.sp).afterRead (s.regs.sp + 1)).setSp (s.regs.sp + 2)) ∧
    (¬ CanPop s → exec (.pop r) s = .next s.popMissed) ∧
    (∀ v : Word, (s.setStackPair .af v).flags =
      { z := v.getLsbD 7, n := v.getLsbD 6, h := v.getLsbD 5, c := v.getLsbD 4 })

/-! ### 8-bit arithmetic and logic (42_alu8.md) -/

/-- ADD and ADC: A takes the sum modulo 256, Z its being 0, N 0, H the carry out of bit 3, C the carry out of bit 7; 4 cycles from a
register, 8 from an immediate or from memory; no other register changes (R281, R282). -/
def Obligations.AddAndAdc : Prop :=
  ∀ (s : State) (r : Reg8) (n : Byte),
    let after := fun (t : State) (v : Byte) (c cost : Nat) =>
      ({ (t.setReg .a (BitVec.ofNat 8 (s.regs.a.toNat + v.toNat + c))).setFlags
          { z := decide ((s.regs.a.toNat + v.toNat + c) % 256 = 0), n := false,
            h := decide (15 < s.regs.a.toNat % 16 + v.toNat % 16 + c),
            c := decide (255 < s.regs.a.toNat + v.toNat + c) } with cycles := cost } : State)
    encode (.alu .add (.reg r)) = [0b10000#5 ++ r8Bits (.reg r)] ∧
    exec (.alu .add (.reg r)) s = .next (after s (s.getReg r) 0 4) ∧
    encode (.aluImm .add n) = [0xC6, n] ∧
    exec (.aluImm .add n) s = .next (after s n 0 8) ∧
    encode (.alu .add .atHL) = [0x86] ∧
    (CanRead s s.hl → exec (.alu .add .atHL) s = .next (after (s.afterRead s.hl) (s.peek s.hl) 0 8)) ∧
    (¬ CanRead s s.hl → exec (.alu .add .atHL) s = .next (s.readMissed s.hl)) ∧
    encode (.alu .adc (.reg r)) = [0b10001#5 ++ r8Bits (.reg r)] ∧
    exec (.alu .adc (.reg r)) s = .next (after s (s.getReg r) s.flags.c.toNat 4) ∧
    encode (.aluImm .adc n) = [0xCE, n] ∧
    exec (.aluImm .adc n) s = .next (after s n s.flags.c.toNat 8) ∧
    encode (.alu .adc .atHL) = [0x8E] ∧
    (CanRead s s.hl → exec (.alu .adc .atHL) s =
      .next (after (s.afterRead s.hl) (s.peek s.hl) s.flags.c.toNat 8)) ∧
    (¬ CanRead s s.hl → exec (.alu .adc .atHL) s = .next (s.readMissed s.hl))

/-- SUB, SBC and CP: the difference modulo 256, Z its being 0, N 1, H the borrow at bit 4, C the borrow at bit 8; SUB and SBC put it
in A, CP leaves A; no other register changes (R283, R284, R288). -/
def Obligations.SubSbcAndCp : Prop :=
  ∀ (s : State) (r : Reg8) (n : Byte),
    let flags := fun (v : Byte) (c : Nat) =>
      ({ z := decide (((s.regs.a.toNat : Int) - v.toNat - c) % 256 = 0), n := true,
         h := decide (((s.regs.a.toNat % 16 : Nat) : Int) - (v.toNat % 16 : Nat) - c < 0),
         c := decide ((s.regs.a.toNat : Int) - v.toNat - c < 0) } : Flags)
    let after := fun (t : State) (v : Byte) (c cost : Nat) =>
      ({ (t.setReg .a (BitVec.ofInt 8 ((s.regs.a.toNat : Int) - v.toNat - c))).setFlags (flags v c) with
          cycles := cost } : State)
    encode (.alu .sub (.reg r)) = [0b10010#5 ++ r8Bits (.reg r)] ∧
    exec (.alu .sub (.reg r)) s = .next (after s (s.getReg r) 0 4) ∧
    encode (.aluImm .sub n) = [0xD6, n] ∧
    exec (.aluImm .sub n) s = .next (after s n 0 8) ∧
    encode (.alu .sub .atHL) = [0x96] ∧
    (CanRead s s.hl → exec (.alu .sub .atHL) s = .next (after (s.afterRead s.hl) (s.peek s.hl) 0 8)) ∧
    (¬ CanRead s s.hl → exec (.alu .sub .atHL) s = .next (s.readMissed s.hl)) ∧
    encode (.alu .sbc (.reg r)) = [0b10011#5 ++ r8Bits (.reg r)] ∧
    exec (.alu .sbc (.reg r)) s = .next (after s (s.getReg r) s.flags.c.toNat 4) ∧
    encode (.aluImm .sbc n) = [0xDE, n] ∧
    exec (.aluImm .sbc n) s = .next (after s n s.flags.c.toNat 8) ∧
    encode (.alu .sbc .atHL) = [0x9E] ∧
    (CanRead s s.hl → exec (.alu .sbc .atHL) s =
      .next (after (s.afterRead s.hl) (s.peek s.hl) s.flags.c.toNat 8)) ∧
    (¬ CanRead s s.hl → exec (.alu .sbc .atHL) s = .next (s.readMissed s.hl)) ∧
    encode (.alu .cp (.reg r)) = [0b10111#5 ++ r8Bits (.reg r)] ∧
    exec (.alu .cp (.reg r)) s = .next { s.setFlags (flags (s.getReg r) 0) with cycles := 4 } ∧
    encode (.aluImm .cp n) = [0xFE, n] ∧
    exec (.aluImm .cp n) s = .next { s.setFlags (flags n 0) with cycles := 8 } ∧
    encode (.alu .cp .atHL) = [0xBE] ∧
    (CanRead s s.hl → exec (.alu .cp .atHL) s =
      .next { (s.afterRead s.hl).setFlags (flags (s.peek s.hl) 0) with cycles := 8 }) ∧
    (¬ CanRead s s.hl → exec (.alu .cp .atHL) s = .next (s.readMissed s.hl))

/-- AND, XOR and OR: A takes the bitwise result, Z is the result's being 0, N and C are 0, H is 1 for AND and 0 for XOR and OR; no
other register changes (R285, R286, R287). -/
def Obligations.LogicOperations : Prop :=
  ∀ (s : State) (r : Reg8) (n : Byte),
    let after := fun (u : State) (w : Byte) (h : Bool) (cost : Nat) =>
      ({ (u.setReg .a w).setFlags { z := decide (w.toNat = 0), n := false, h := h, c := false } with
          cycles := cost } : State)
    encode (.alu .and (.reg r)) = [0b10100#5 ++ r8Bits (.reg r)] ∧
    exec (.alu .and (.reg r)) s = .next (after s (s.regs.a &&& s.getReg r) true 4) ∧
    encode (.aluImm .and n) = [0xE6, n] ∧
    exec (.aluImm .and n) s = .next (after s (s.regs.a &&& n) true 8) ∧
    encode (.alu .and .atHL) = [0xA6] ∧
    (CanRead s s.hl → exec (.alu .and .atHL) s =
      .next (after (s.afterRead s.hl) (s.regs.a &&& s.peek s.hl) true 8)) ∧
    encode (.alu .xor (.reg r)) = [0b10101#5 ++ r8Bits (.reg r)] ∧
    exec (.alu .xor (.reg r)) s = .next (after s (s.regs.a ^^^ s.getReg r) false 4) ∧
    encode (.aluImm .xor n) = [0xEE, n] ∧
    exec (.aluImm .xor n) s = .next (after s (s.regs.a ^^^ n) false 8) ∧
    encode (.alu .xor .atHL) = [0xAE] ∧
    (CanRead s s.hl → exec (.alu .xor .atHL) s =
      .next (after (s.afterRead s.hl) (s.regs.a ^^^ s.peek s.hl) false 8)) ∧
    encode (.alu .or (.reg r)) = [0b10110#5 ++ r8Bits (.reg r)] ∧
    exec (.alu .or (.reg r)) s = .next (after s (s.regs.a ||| s.getReg r) false 4) ∧
    encode (.aluImm .or n) = [0xF6, n] ∧
    exec (.aluImm .or n) s = .next (after s (s.regs.a ||| n) false 8) ∧
    encode (.alu .or .atHL) = [0xB6] ∧
    (CanRead s s.hl → exec (.alu .or .atHL) s =
      .next (after (s.afterRead s.hl) (s.regs.a ||| s.peek s.hl) false 8)) ∧
    (¬ CanRead s s.hl → ∀ o ∈ [AluOp.and, AluOp.xor, AluOp.or], exec (.alu o .atHL) s = .next (s.readMissed s.hl))

/-- INC and DEC of a register or of the byte at HL: one more or one less modulo 256, Z its being 0, N 0 or 1, H the carry out of or
the borrow into the low nibble, C kept. The memory forms do one read, then one write, then set the flags (R289 to R292). -/
def Obligations.IncAndDec : Prop :=
  ∀ (s : State) (r : Reg8),
    let incFlags := fun (v : Byte) => ({ z := decide (v.toNat = 255), n := false, h := decide (v.toNat % 16 = 15),
                                         c := s.flags.c } : Flags)
    let decFlags := fun (v : Byte) => ({ z := decide (v.toNat = 1), n := true, h := decide (v.toNat % 16 = 0),
                                         c := s.flags.c } : Flags)
    let up := s.peek s.hl + 1
    let down := s.peek s.hl - 1
    encode (.incR8 (.reg r)) = [0b00#2 ++ r8Bits (.reg r) ++ 0b100#3] ∧
    exec (.incR8 (.reg r)) s =
      .next { (s.setReg r (s.getReg r + 1)).setFlags (incFlags (s.getReg r)) with cycles := 4 } ∧
    encode (.incR8 .atHL) = [0x34] ∧
    (CanModify s up → exec (.incR8 .atHL) s =
      .next { (s.afterModify up).setFlags (incFlags (s.peek s.hl)) with cycles := 12 }) ∧
    (¬ CanModify s up → exec (.incR8 .atHL) s = .next (s.modifyMissed up)) ∧
    encode (.decR8 (.reg r)) = [0b00#2 ++ r8Bits (.reg r) ++ 0b101#3] ∧
    exec (.decR8 (.reg r)) s =
      .next { (s.setReg r (s.getReg r - 1)).setFlags (decFlags (s.getReg r)) with cycles := 4 } ∧
    encode (.decR8 .atHL) = [0x35] ∧
    (CanModify s down → exec (.decR8 .atHL) s =
      .next { (s.afterModify down).setFlags (decFlags (s.peek s.hl)) with cycles := 12 }) ∧
    (¬ CanModify s down → exec (.decR8 .atHL) s = .next (s.modifyMissed down))

/-- DAA, by cases on N: after an addition it adds 0x06 where H is set or the low digit exceeds 9 and 0x60 where C is set or A exceeds
0x99, which also sets C; after a subtraction it subtracts 0x06 for H and 0x60 for C and keeps C; Z is the result's being 0, H is 0,
N is kept. CPL inverts A and sets N and H; SCF sets C, CCF inverts it, and both clear N and H; all three keep Z. No other register
changes (R293 to R296). -/
def Obligations.AccumulatorAndCarryOperations : Prop :=
  ∀ s : State,
    let a := s.regs.a.toNat
    let low := if s.flags.h ∨ (s.flags.n = false ∧ 9 < a % 16) then 0x06 else 0
    let carry := s.flags.c || (!s.flags.n && decide (0x99 < a))
    let high := if carry then 0x60 else 0
    let w := BitVec.ofInt 8 (if s.flags.n then (a : Int) - low - high else a + low + high)
    encode .daa = [0x27] ∧ encode .cpl = [0x2F] ∧ encode .scf = [0x37] ∧ encode .ccf = [0x3F] ∧
    exec .daa s = .next
      { (s.setReg .a w).setFlags { z := decide (w = 0), n := s.flags.n, h := false, c := carry } with cycles := 4 } ∧
    exec .cpl s = .next
      { (s.setReg .a (~~~s.regs.a)).setFlags { z := s.flags.z, n := true, h := true, c := s.flags.c } with cycles := 4 } ∧
    exec .scf s = .next { s.setFlags { z := s.flags.z, n := false, h := false, c := true } with cycles := 4 } ∧
    exec .ccf s = .next { s.setFlags { z := s.flags.z, n := false, h := false, c := !s.flags.c } with cycles := 4 }

/-- What DAA is for: with A and B two-digit decimal numbers, ADC A,B and DAA leave the last two digits of their sum and the carry in
A, and in C whether it reaches 100; SBC A,B and DAA leave those of the difference, and in C the borrow (R282, R284, R293). -/
def Obligations.DaaGivesDecimalResults : Prop :=
  ∀ (x y : Nat) (s t : State), x < 100 → y < 100 →
    let bcd := fun n : Nat => BitVec.ofNat 8 (n / 10 * 16 + n % 10)
    let c := s.flags.c.toNat
    s.regs.a = bcd x → s.regs.b = bcd y →
      ((exec (.alu .adc (.reg .b)) s = .next t → ∃ u, exec .daa t = .next u ∧
          u.regs.a = bcd ((x + y + c) % 100) ∧ u.flags.c = decide (100 ≤ x + y + c)) ∧
       (exec (.alu .sbc (.reg .b)) s = .next t → ∃ u, exec .daa t = .next u ∧
          u.regs.a = bcd ((x + 100 - y - c) % 100) ∧ u.flags.c = decide (x < y + c)))

/-! ### 16-bit arithmetic (43_alu16.md) -/

/-- ADD HL,rr: the sum modulo 2^16, N 0, H the carry out of bit 11, C the carry out of bit 15, Z kept. INC rr and DEC rr wrap and
write no flag. ADD SP,e adds the signed byte, with Z and N 0 and H and C from the unsigned sum of the low bytes (R320 to R323). -/
def Obligations.WordArithmetic : Prop :=
  ∀ (s : State) (r : Pair) (e : Byte),
    let h := (s.getPair .hl).toNat
    let v := (s.getPair r).toNat
    encode (.addHl r) = [0b00#2 ++ pairBits r ++ 0b1001#4] ∧
    exec (.addHl r) s = .next
      { (s.setPair .hl (BitVec.ofNat 16 (h + v))).setFlags
          { z := s.flags.z, n := false, h := decide (0xFFF < h % 0x1000 + v % 0x1000), c := decide (0xFFFF < h + v) } with
          cycles := 8 } ∧
    encode (.incPair r) = [0b00#2 ++ pairBits r ++ 0b0011#4] ∧
    exec (.incPair r) s = .next { s.setPair r (s.getPair r + 1) with cycles := 8 } ∧
    encode (.decPair r) = [0b00#2 ++ pairBits r ++ 0b1011#4] ∧
    exec (.decPair r) s = .next { s.setPair r (s.getPair r - 1) with cycles := 8 } ∧
    encode (.addSP_e e) = [0xE8, e] ∧
    exec (.addSP_e e) s = .next
      { (s.setPair .sp (BitVec.ofInt 16 (s.regs.sp.toNat + e.toInt))).setFlags
          { z := false, n := false, h := decide (15 < s.regs.sp.toNat % 16 + e.toNat % 16),
            c := decide (255 < s.regs.sp.toNat % 256 + e.toNat) } with cycles := 16 }

/-! ### Rotates, shifts and bits (44_rotate_shift_bit.md) -/

/-- RLCA, RRCA, RLA and RRA rotate A by one, around the byte or through C; C takes the bit shifted out, Z, N and H are 0 (R340 to
R343). -/
def Obligations.RotatesOfA : Prop :=
  ∀ s : State,
    let a := s.regs.a
    let c := s.flags.c
    let after := fun (w : Byte) (out : Bool) =>
      ({ (s.setReg .a w).setFlags { z := false, n := false, h := false, c := out } with cycles := 4 } : State)
    encode .rlca = [0x07] ∧ encode .rrca = [0x0F] ∧ encode .rla = [0x17] ∧ encode .rra = [0x1F] ∧
    exec .rlca s = .next (after (a.rotateLeft 1) (a.getLsbD 7)) ∧
    exec .rrca s = .next (after (a.rotateRight 1) (a.getLsbD 0)) ∧
    exec .rla s = .next (after (BitVec.ofNat 8 (2 * a.toNat + c.toNat)) (a.getLsbD 7)) ∧
    exec .rra s = .next (after (BitVec.ofNat 8 (a.toNat / 2 + 128 * c.toNat)) (a.getLsbD 0))

/-- The rotates, shifts and SWAP of the extended table: the result in the operand, Z its being 0, N and H 0, C the bit shifted out (0
for SWAP); 8 cycles on a register, 16 on the byte at HL, which is read once and written once (R345 to R352). -/
def Obligations.ExtendedRotates : Prop :=
  (∀ (v : Byte) (c : Bool),
    rotate8 .rlc v c = (v.rotateLeft 1, v.getLsbD 7) ∧ rotate8 .rrc v c = (v.rotateRight 1, v.getLsbD 0) ∧
    rotate8 .rl v c = (BitVec.ofNat 8 (2 * v.toNat + c.toNat), v.getLsbD 7) ∧
    rotate8 .rr v c = (BitVec.ofNat 8 (v.toNat / 2 + 128 * c.toNat), v.getLsbD 0) ∧
    rotate8 .sla v c = (BitVec.ofNat 8 (2 * v.toNat), v.getLsbD 7) ∧
    rotate8 .sra v c = (v.sshiftRight 1, v.getLsbD 0) ∧
    rotate8 .swap v c = (BitVec.ofNat 8 (v.toNat % 16 * 16 + v.toNat / 16), false) ∧
    rotate8 .srl v c = (BitVec.ofNat 8 (v.toNat / 2), v.getLsbD 0)) ∧
  ∀ (s : State) (o : RotOp) (r : Reg8),
    let w := fun v => (rotate8 o v s.flags.c).1
    let flags := fun v => ({ z := decide (w v = 0), n := false, h := false, c := (rotate8 o v s.flags.c).2 } : Flags)
    encode (.rot o (.reg r)) = [0xCB, 0b00#2 ++ rotBits o ++ r8Bits (.reg r)] ∧
    exec (.rot o (.reg r)) s = .next { (s.setReg r (w (s.getReg r))).setFlags (flags (s.getReg r)) with cycles := 8 } ∧
    encode (.rot o .atHL) = [0xCB, 0b00#2 ++ rotBits o ++ 0b110#3] ∧
    (CanModify s (w (s.peek s.hl)) → exec (.rot o .atHL) s =
      .next { (s.afterModify (w (s.peek s.hl))).setFlags (flags (s.peek s.hl)) with cycles := 16 }) ∧
    (¬ CanModify s (w (s.peek s.hl)) → exec (.rot o .atHL) s = .next (s.modifyMissed (w (s.peek s.hl))))

/-- BIT b sets Z to the inverse of bit b, N 0, H 1, keeps C and writes nothing else; RES and SET change bit b of the operand alone
and write no flag; a memory form of RES or SET reads once and writes once (R353, R354, R355). -/
def Obligations.BitResAndSet : Prop :=
  (∀ (v : Byte) (b : BitVec 3) (j : Nat),
    (resBit v b).getLsbD j = (v.getLsbD j && decide (j ≠ b.toNat)) ∧
    (setBit v b).getLsbD j = (v.getLsbD j || decide (j = b.toNat))) ∧
  ∀ (s : State) (b : BitVec 3) (r : Reg8),
    let flags := fun (v : Byte) => ({ z := !v.getLsbD b.toNat, n := false, h := true, c := s.flags.c } : Flags)
    encode (.bit b (.reg r)) = [0xCB, 0b01#2 ++ b ++ r8Bits (.reg r)] ∧
    exec (.bit b (.reg r)) s = .next { s.setFlags (flags (s.getReg r)) with cycles := 8 } ∧
    encode (.bit b .atHL) = [0xCB, 0b01#2 ++ b ++ 0b110#3] ∧
    (CanRead s s.hl → exec (.bit b .atHL) s =
      .next { (s.afterRead s.hl).setFlags (flags (s.peek s.hl)) with cycles := 12 }) ∧
    (¬ CanRead s s.hl → exec (.bit b .atHL) s = .next (s.readMissed s.hl)) ∧
    encode (.res b (.reg r)) = [0xCB, 0b10#2 ++ b ++ r8Bits (.reg r)] ∧
    exec (.res b (.reg r)) s = .next { s.setReg r (resBit (s.getReg r) b) with cycles := 8 } ∧
    encode (.res b .atHL) = [0xCB, 0b10#2 ++ b ++ 0b110#3] ∧
    (CanModify s (resBit (s.peek s.hl) b) → exec (.res b .atHL) s =
      .next { s.afterModify (resBit (s.peek s.hl) b) with cycles := 16 }) ∧
    (¬ CanModify s (resBit (s.peek s.hl) b) → exec (.res b .atHL) s = .next (s.modifyMissed (resBit (s.peek s.hl) b))) ∧
    encode (.set b (.reg r)) = [0xCB, 0b11#2 ++ b ++ r8Bits (.reg r)] ∧
    exec (.set b (.reg r)) s = .next { s.setReg r (setBit (s.getReg r) b) with cycles := 8 } ∧
    encode (.set b .atHL) = [0xCB, 0b11#2 ++ b ++ 0b110#3] ∧
    (CanModify s (setBit (s.peek s.hl) b) → exec (.set b .atHL) s =
      .next { s.afterModify (setBit (s.peek s.hl) b) with cycles := 16 }) ∧
    (¬ CanModify s (setBit (s.peek s.hl) b) → exec (.set b .atHL) s = .next (s.modifyMissed (setBit (s.peek s.hl) b)))

/-! ### Control transfers and system instructions (45_control.md, 46_system.md) -/

/-- The jumps set pc to the word, to HL, or to the next instruction's address plus the signed byte modulo 2^16; an untaken one leaves
pc and costs 4 less; no register and no flag changes (R380 to R384). -/
def Obligations.JumpsSetPcAlone : Prop :=
  ∀ (s : State) (cc : Cond) (nn : Word) (e : Byte),
    let target := BitVec.ofInt 16 (s.regs.pc.toNat + e.toInt)
    encode .jpHL = [0xE9] ∧ encode (.jp_nn nn) = [0xC3, loByte nn, hiByte nn] ∧ encode (.jr_e e) = [0x18, e] ∧
    encode (.jpIf cc nn) = [0b110#3 ++ condBits cc ++ 0b010#3, loByte nn, hiByte nn] ∧
    encode (.jrIf cc e) = [0b001#3 ++ condBits cc ++ 0b000#3, e] ∧
    exec .jpHL s = .next { s with regs := { s.regs with pc := s.getPair .hl }, cycles := 4 } ∧
    exec (.jp_nn nn) s = .next { s with regs := { s.regs with pc := nn }, cycles := 16 } ∧
    (condHolds cc s.flags = true →
      exec (.jpIf cc nn) s = .next { s with regs := { s.regs with pc := nn }, cycles := 16 } ∧
      exec (.jrIf cc e) s = .next { s with regs := { s.regs with pc := target }, cycles := 12 }) ∧
    (condHolds cc s.flags = false →
      exec (.jpIf cc nn) s = .next { s with cycles := 12 } ∧ exec (.jrIf cc e) s = .next { s with cycles := 8 }) ∧
    exec (.jr_e e) s = .next { s with regs := { s.regs with pc := target }, cycles := 12 }

/-- CALL and RST push pc, the address of the next instruction, and go to the word or to 8t; an untaken CALL touches no stack; no
other register and no flag changes (R385, R386, R390). -/
def Obligations.CallsAndRestarts : Prop :=
  ∀ (s : State) (cc : Cond) (nn : Word) (t : BitVec 3),
    let go := fun (target : Word) (cost : Nat) =>
      ({ s.afterPush s.regs.pc with
          regs := { s.regs with sp := s.regs.sp - 2, pc := target }, cycles := cost } : State)
    (CanPush s s.regs.pc →
      exec (.call_nn nn) s = .next (go nn 24) ∧
      (condHolds cc s.flags = true → exec (.callIf cc nn) s = .next (go nn 24)) ∧
      exec (.rst t) s = .next (go (BitVec.ofNat 16 (8 * t.toNat)) 16)) ∧
    (¬ CanPush s s.regs.pc →
      exec (.call_nn nn) s = .next (s.pushMissed s.regs.pc) ∧
      (condHolds cc s.flags = true → exec (.callIf cc nn) s = .next (s.pushMissed s.regs.pc)) ∧
      exec (.rst t) s = .next (s.pushMissed s.regs.pc)) ∧
    (condHolds cc s.flags = false → exec (.callIf cc nn) s = .next { s with cycles := 12 }) ∧
    encode (.rst t) = [0b11#2 ++ t ++ 0b111#3] ∧ encode (.call_nn nn) = [0xCD, loByte nn, hiByte nn] ∧
    encode (.callIf cc nn) = [0b110#3 ++ condBits cc ++ 0b100#3, loByte nn, hiByte nn]

/-- RET pops pc; RET cc does so where the condition holds and else touches no stack; RETI also sets IME at once and clears
`ime_pending`; no other register and no flag changes, nothing else is restored (R387, R388, R389, R442). -/
def Obligations.ReturnsPopPc : Prop :=
  ∀ (s : State) (cc : Cond),
    let regs := { s.regs with sp := s.regs.sp + 2, pc := s.topWord }
    encode .ret = [0xC9] ∧ encode .reti = [0xD9] ∧ encode (.retIf cc) = [0b110#3 ++ condBits cc ++ 0b000#3] ∧
    (CanPop s →
      exec .ret s = .next { s.afterPop with regs := regs, cycles := 16 } ∧
      (condHolds cc s.flags = true → exec (.retIf cc) s = .next { s.afterPop with regs := regs, cycles := 20 }) ∧
      exec .reti s = .next { s.afterPop with regs := regs, ime := true, imePending := false, cycles := 16 }) ∧
    (¬ CanPop s →
      exec .ret s = .next s.popMissed ∧ exec .reti s = .next s.popMissed ∧
      (condHolds cc s.flags = true → exec (.retIf cc) s = .next s.popMissed)) ∧
    (condHolds cc s.flags = false → exec (.retIf cc) s = .next { s with cycles := 8 })

/-- NOP does nothing; HALT enters Halted, or arms the halt bug where `HALT_BUG` is set, IME is 0 and an interrupt is pending; STOP
enters Halted or does nothing, as `STOP_MODE` says; each costs 4 cycles (R410, R411, R412). -/
def Obligations.NopHaltAndStop : Prop :=
  ∀ (s : State) (n : Byte),
    encode .nop = [0x00] ∧ encode .halt = [0x76] ∧ encode (.stop n) = [0x10, n] ∧
    exec .nop s = .next { s with cycles := 4 } ∧
    (s.params.haltBug = true ∧ s.ime = false ∧ s.pendingIrqs ≠ 0 →
      exec .halt s = .next { s with haltBugArmed := true, cycles := 4 }) ∧
    (¬ (s.params.haltBug = true ∧ s.ime = false ∧ s.pendingIrqs ≠ 0) →
      exec .halt s = .next { s with runState := .halted, cycles := 4 }) ∧
    (s.params.stopMode = .halt → exec (.stop n) s = .next { s with runState := .halted, cycles := 4 }) ∧
    (s.params.stopMode = .nop → exec (.stop n) s = .next { s with cycles := 4 })

/-- The prefix byte's instruction fetches the second byte and runs the extended instruction it selects, whose cost is the whole
cost; a fetch that misses the cartridge raises `MBCNotLoaded` (R415, R181). The model's choice: the prefix byte alone has a meaning
of its own, which no fetch decodes to, log entry 9. -/
def Obligations.PrefixRunsTheExtendedInstruction : Prop :=
  ∀ s : State,
    encode .prefixCB = [0xCB] ∧
    (CanRead s s.regs.pc → exec .prefixCB s =
      exec (decodeExtended (s.peek s.regs.pc))
        { s.afterRead s.regs.pc with regs := { s.regs with pc := s.regs.pc + 1 } } ∧
      ∃ t, exec .prefixCB s = .next t ∧ (Safe s → CartLoaded s → Safe t ∧ 8 ≤ t.cycles ∧ t.cycles ≤ 16)) ∧
    (¬ CanRead s s.regs.pc → exec .prefixCB s = .next (s.readMissed s.regs.pc))

/-! ### Memory (20_memory.md) -/

/-- Where each address goes: the cartridge's windows, VRAM, OAM, the I/O registers of R77 by name, IE, and the flat array for all
others, the echo area on WRAM where `ECHO_MIRROR` is set (R71, R72, R77). -/
def Obligations.AddressMap : Prop :=
  ([0xFF00, 0xFF01, 0xFF02, 0xFF04, 0xFF05, 0xFF06, 0xFF07, 0xFF0F, 0xFF26, 0xFF40, 0xFF41, 0xFF42, 0xFF43, 0xFF44, 0xFF45,
      0xFF46, 0xFF47, 0xFF48, 0xFF49, 0xFF4A, 0xFF4B].map ioReg? =
    [IoReg.joyp, .sb, .sc, .div, .tima, .tma, .tac, .ifReg, .nr52, .lcdc, .stat, .scy, .scx, .ly, .lyc,
      .dma, .bgp, .obp0, .obp1, .wy, .wx].map some) ∧
  ∀ (p : Params) (a : Word),
    let n := a.toNat
    (route p a = .cart ↔ n < 0x8000 ∨ (0xA000 ≤ n ∧ n < 0xC000)) ∧
    (0x8000 ≤ n ∧ n < 0xA000 → route p a = .vram (n - 0x8000)) ∧
    (0xC000 ≤ n ∧ n < 0xE000 → route p a = .flat n) ∧
    (0xE000 ≤ n ∧ n < 0xFE00 → route p a = .flat (if p.echoMirror then n - 0x2000 else n)) ∧
    (0xFE00 ≤ n ∧ n < 0xFEA0 → route p a = .oam (n - 0xFE00)) ∧
    (0xFEA0 ≤ n ∧ n < 0xFF00 ∨ 0xFF80 ≤ n ∧ n < 0xFFFF → route p a = .flat n) ∧
    (0xFF00 ≤ n ∧ n < 0xFF80 → route p a = match ioReg? a with | some r => .io r | none => .flat n) ∧
    (0xFF10 ≤ n ∧ n < 0xFF26 → ioReg? a = some (.audio n)) ∧ (0xFF30 ≤ n ∧ n < 0xFF40 → ioReg? a = some (.wave n)) ∧
    (0xFF4C ≤ n ∧ n < 0xFF80 ∨ 0xFF27 ≤ n ∧ n < 0xFF30 ∨ 0xFF08 ≤ n ∧ n < 0xFF0F ∨ n = 0xFF03 → ioReg? a = none) ∧
    (n = 0xFFFF → route p a = .ie)

/-- What the I/O registers read: JOYP from the select bits and the pressed buttons, TAC, IF, NR52 and STAT with their unused bits 1,
LY the current line, the audio bytes, wave RAM and the rest their bytes (R433, R434, R450, R452 to R454, R460, R465, R471, R475,
R476, R503 to R509). LY is at most 153 in every state a run reaches. -/
def Obligations.RegisterReads : Prop :=
  ∀ s : State,
    let j := s.bus.joypad
    let d := !j.sel.getLsbD 0
    let b := !j.sel.getLsbD 1
    (s.peek 0xFF00).toNat = 0xC0 + 16 * j.sel.toNat +
      8 * (!(d && j.slot0.down) && !(b && j.slot0.start)).toNat + 4 * (!(d && j.slot0.up) && !(b && j.slot0.select)).toNat +
      2 * (!(d && j.slot0.left) && !(b && j.slot0.b)).toNat + (!(d && j.slot0.right) && !(b && j.slot0.a)).toNat ∧
    s.peek 0xFF01 = s.bus.sb ∧ s.peek 0xFF02 = s.bus.sc ∧ s.peek 0xFF04 = s.bus.timer.div ∧
    s.peek 0xFF05 = s.bus.timer.tima ∧ s.peek 0xFF06 = s.bus.timer.tma ∧
    (s.peek 0xFF07).toNat = 0xF8 + s.bus.timer.tac.toNat ∧ (s.peek 0xFF0F).toNat = 0xE0 + s.bus.ifReg.toNat ∧
    (s.peek 0xFF26).toNat = 128 * s.bus.audio.power.toNat + 0x70 ∧ s.peek 0xFF40 = s.video.lcdc ∧
    (s.peek 0xFF41).toNat = 0x80 + 8 * s.video.statSel.toNat + 4 * s.video.coinc.toNat +
      (match s.video.mode with | .hblank => 0 | .vblank => 1 | .oamScan => 2 | .draw => 3) ∧
    s.peek 0xFF42 = s.video.scy ∧ s.peek 0xFF43 = s.video.scx ∧ (s.video.ly ≤ 153 → (s.peek 0xFF44).toNat = s.video.ly) ∧
    s.peek 0xFF45 = s.video.lyc ∧ s.peek 0xFF46 = s.bus.dmaReg ∧ s.peek 0xFF47 = s.video.bgp ∧
    s.peek 0xFF48 = s.video.obp0 ∧ s.peek 0xFF49 = s.video.obp1 ∧ s.peek 0xFF4A = s.video.wy ∧
    s.peek 0xFF4B = s.video.wx ∧ s.peek 0xFFFF = s.bus.ieReg ∧
    ∀ a : Word, (0xFF10 ≤ a ∧ a ≤ 0xFF25) ∨ (0xFF30 ≤ a ∧ a ≤ 0xFF3F) → s.peek a = Memory.read s.bus.audio.regs a.toNat

/-- What an address reads after a write of `v`: `v` where it is storage; for a register with fixed or read-only bits, its writable
bits of `v` and the others as they read; DIV 0; LY as before; the audio bytes as before while the power is off (R76, R77, R83, R128,
R433, R434, R451 to R454, R461, R465, R475, R476, R501 to R509). Of the cartridge's windows it covers those of NoMBC; the other
variants have statements of their own. The memories are canonical. -/
def Obligations.WriteThenRead : Prop :=
  ∀ (s : State) (a : Word) (v : Byte), MemWf s →
    let after := (s.afterWrite a v).peek a
    match route s.params a with
    | .vram _ | .oam _ | .flat _ | .ie => after = v
    | .cart => ∀ c arr, s.cart = some c → c.mbc = .noMbc arr → after = if 0x4000 ≤ a then v else s.peek a
    | .io r =>
      match r with
      | .joyp => after &&& 0x30 = v &&& 0x30 ∧ after &&& 0xC0 = 0xC0
      | .div => after = 0 ∧ (s.afterWrite a v).bus.timer = { s.bus.timer with div := 0, divAcc := 0 }
      | .tac => after = (v &&& 0x07) ||| 0xF8
      | .ifReg => after = (v &&& 0x1F) ||| 0xE0
      | .audio _ => after = if s.bus.audio.power then v else s.peek a
      | .nr52 => after = (v &&& 0x80) ||| 0x70 ∧
          (v.getLsbD 7 = false → ∀ b : Word, 0xFF10 ≤ b → b ≤ 0xFF25 → (s.afterWrite a v).peek b = 0)
      | .stat => after = (v &&& 0x78) ||| (s.peek a &&& 0x07) ||| 0x80
      | .ly => after = s.peek a
      | .sb | .sc | .tima | .tma | .wave _ | .lcdc | .scy | .scx | .lyc | .dma | .bgp | .obp0 | .obp1 | .wy | .wx => after = v

/-- A read leaves what every address reads, but for the bytes under the overlay where it reads 0x0100. A write leaves it at every
address it does not touch. So do a push, and a read and write at HL. No access changes a register, a flag, IME, `ime_pending`, the
halt bug or the run state; a push changes SP alone (R73, R82, R83). -/
def Obligations.StoresTouchOnlyTheirBytes : Prop :=
  ∀ (s : State) (b : Word),
    (∀ a : Word, (a ≠ 0x0100 ∨ 0x0100 ≤ b ∨ s.bus.bootActive = false) → (s.afterRead a).peek b = s.peek b) ∧
    (∀ (a : Word) (v : Byte), ¬ Touches s a v b → (s.afterWrite a v).peek b = s.peek b) ∧
    (∀ v : Word, ¬ Touches s (s.regs.sp - 1) (hiByte v) b → ¬ Touches s (s.regs.sp - 2) (loByte v) b →
      (s.afterPush v).peek b = s.peek b) ∧
    (∀ w : Byte, (s.hl ≠ 0x0100 ∨ 0x0100 ≤ b ∨ s.bus.bootActive = false) → ¬ Touches s s.hl w b →
      (s.afterModify w).peek b = s.peek b) ∧
    ∀ (a : Word) (v : Byte) (w : Word),
      (s.afterPush w).regs = { s.regs with sp := s.regs.sp - 2 } ∧
      (∀ t ∈ [s.afterRead a, s.afterWrite a v, s.afterModify v], t.regs = s.regs) ∧
      ∀ t ∈ [s.afterRead a, s.afterWrite a v, s.afterModify v, s.afterPush w],
        t.ime = s.ime ∧ t.imePending = s.imePending ∧ t.haltBugArmed = s.haltBugArmed ∧ t.opcodeAddr = s.opcodeAddr ∧
        t.runState = s.runState

/-- The instructions that store nothing leave what every address reads, but for the bytes under an active overlay (the instructions'
rules; R82). -/
def Obligations.NonStoringInstructionsKeepMemory : Prop :=
  ∀ (s t : State) (b : Word), (s.bus.bootActive = false ∨ 0x0100 ≤ b) →
    ∀ i : Instr,
      (∃ (r : Reg8) (k : R8) (p : MemPair) (q : Pair) (g : StackPair) (o : AluOp) (m : RotOp) (cc : Cond) (y : BitVec 3)
          (n : Byte) (nn : Word),
        i ∈ [.ldR8 (.reg r) k, .ldImm (.reg r) n, .ldAFrom p, .ldA_atNN nn, .ldhA_atN n, .ldhA_atC, .ldPair q nn, .ldSP_HL,
          .ldHL_SPe n, .pop g, .alu o k, .aluImm o n, .incR8 (.reg r), .decR8 (.reg r), .daa, .cpl, .scf, .ccf, .addHl q,
          .incPair q, .decPair q, .addSP_e n, .rlca, .rrca, .rla, .rra, .rot m (.reg r), .bit y k, .res y (.reg r),
          .set y (.reg r), .jp_nn nn, .jpIf cc nn, .jpHL, .jr_e n, .jrIf cc n, .ret, .retIf cc, .reti, .nop, .halt, .stop n,
          .di, .ei]) →
      exec i s = .next t → t.peek b = s.peek b

/-- While the overlay is active it answers the reads of 0x0000 to 0x00FF, with or without a cartridge; a read of 0x0100 goes to the
cartridge and retires it; no write does, but for the DMA copy that reads 0x0100; and no step makes it active again (R74, R75). -/
def Obligations.OverlayShadowsUntilRetired : Prop :=
  ∀ (s t : State) (a : Word) (v : Byte),
    (s.bus.bootActive = true → a ≤ 0x00FF → CanRead s a ∧
      ∀ image, s.params.bootRom = some image → image.length = 256 → some (s.peek a) = image[a.toNat]?) ∧
    (s.afterRead a).bus.bootActive = (s.bus.bootActive && decide (a ≠ 0x0100)) ∧
    (s.afterWrite a v).bus.bootActive = (s.bus.bootActive && !decide (a = 0xFF46 ∧ v = 0x01)) ∧
    overlaid s 0x0100 = false ∧ (s.cart = none → ¬ CanRead s 0x0100) ∧
    (step s = .next t → s.bus.bootActive = false → t.bus.bootActive = false)

/-- With no cartridge loaded, a bus access routed to the cartridge raises `MBCNotLoaded` with its address, and no other access raises
anything; with one loaded, no access does (R88, R89). -/
def Obligations.NoCartridgeRaises : Prop :=
  ∀ (s : State) (a : Word) (v : Byte),
    ((∃ e t, memRead s a = .error e t) ↔ s.cart = none ∧ route s.params a = .cart ∧ overlaid s a = false) ∧
    (∀ e t, memRead s a = .error e t → e = .mbcNotLoaded a) ∧
    (CanRead s a → memRead s a = .ok (s.peek a) (s.afterRead a)) ∧
    (a ≠ 0xFF46 → ((∃ e t, memWrite s a v = .error e t) ↔ s.cart = none ∧ route s.params a = .cart)) ∧
    (∀ e t, memWrite s a v = .error e t → e = .mbcNotLoaded (missedAddr a v)) ∧
    (CanWrite s a v ↔ ∃ t, memWrite s a v = .ok () t)

/-- No step changes the parameters, the wall clock or the cartridge's ROM image, loads a cartridge or unloads one; and with one loaded,
the only error a step can raise is `IllegalOpcode` (R10, R88, R89, R120, R156, R440, R441). -/
def Obligations.StepKeepsParametersAndCartridge : Prop :=
  ∀ s t : State, step s = .next t →
    t.params = s.params ∧ t.wallClock = s.wallClock ∧ t.cart.map Cartridge.rom = s.cart.map Cartridge.rom ∧
    (CartLoaded s → Safe t ∨ ∃ op address, t.runState = .faulted (.illegalOpcode op address))

/-- An instruction leaves the CPU's other state to its rule and the devices to the device phases: it changes no part of the video
engine's progress or pictures, no TIMA accumulator and no button of any slot; they move only between instructions (R85, R462, R533,
R581). -/
def Obligations.DevicesMoveOnlyBetweenInstructions : Prop :=
  ∀ (i : Instr) (s t : State), exec i s = .next t →
    t.video.ly = s.video.ly ∧ t.video.lineCycle = s.video.lineCycle ∧ t.video.mode = s.video.mode ∧
    t.video.lines = s.video.lines ∧ t.video.viewport = s.video.viewport ∧ t.video.coinc = s.video.coinc ∧
    t.video.spriteBuf = s.video.spriteBuf ∧ t.video.winLine = s.video.winLine ∧ t.video.winYLatch = s.video.winYLatch ∧
    t.video.winDrawn = s.video.winDrawn ∧ t.video.drawEnd = s.video.drawEnd ∧ t.video.lcdActive = s.video.lcdActive ∧
    t.bus.timer.timaAcc = s.bus.timer.timaAcc ∧ t.bus.joypad.slot0 = s.bus.joypad.slot0 ∧
    t.bus.joypad.others = s.bus.joypad.others

/-! ### OAM DMA and the cartridge (60_exceptions.md, 21_cartridge.md) -/

/-- A write of `v` to DMA stores `v` and leaves in OAM the 160 bytes that reads of the page `v` give, each an ordinary bus read
(R470, R471). OAM is canonical. -/
def Obligations.DmaCopiesThePage : Prop :=
  ∀ (s : State) (v : Byte), MemWf s → CanWrite s 0xFF46 v →
    memWrite s 0xFF46 v = .ok () (s.afterWrite 0xFF46 v) ∧ (s.afterWrite 0xFF46 v).bus.dmaReg = v ∧
    ∀ i < 160, (s.afterWrite 0xFF46 v).peek (0xFE00 + BitVec.ofNat 16 i) =
      ({ s with bus := { s.bus with dmaReg := v } } : State).peek (BitVec.ofNat 16 (v.toNat * 256 + i))

/-- NoMBC: reads index the array; writes below 0x4000 do nothing, others store. MBC2: address bit 8 picks the register a write below
0x4000 sets, 0 counting as bank 1; the half-byte RAM mirrors and reads back with the upper nibble 1 (R128, R141, R142). -/
def Obligations.NoMbcAndMbc2 : Prop :=
  (∀ (c : Cartridge) (arr : Memory) (model : Mbc1Model) (now : Nat) (a b : Word) (v : Byte), c.mbc = .noMbc arr → CartWf c →
    c.read model a = arrRead c.rom arr a.toNat ∧
    (a < 0x4000 → c.write now a v = c) ∧
    (0x4000 ≤ a → (c.write now a v).read model b = if b = a then v else c.read model b) ∧
    arrRead c.rom [] a.toNat = (if a.toNat < c.rom.size then Memory.read c.rom.cells a.toNat else 0xFF) ∧ c.getRam = none) ∧
  ∀ (c : Cartridge) (r : Mbc2) (model : Mbc1Model) (now : Nat) (a : Word) (v : Byte), c.mbc = .mbc2 r →
    let n := a.toNat
    (n < 0x4000 ∧ n / 256 % 2 = 0 → c.write now a v =
      { c with mbc := .mbc2 { r with ramEnabled := decide (v.toNat % 16 = 10) } }) ∧
    (n < 0x4000 ∧ n / 256 % 2 = 1 → c.write now a v =
      { c with mbc := .mbc2 { r with bank4 := if v.toNat % 16 = 0 then 1 else BitVec.ofNat 4 v.toNat } }) ∧
    (0x4000 ≤ n ∧ n < 0x8000 → c.write now a v = c) ∧
    (0xA000 ≤ n ∧ n < 0xC000 → c.write now a v =
      if r.ramEnabled then { c with ram := Memory.write c.ram (n % 512) v } else c) ∧
    (n < 0x4000 → c.read model a = romByte c.rom 0 n) ∧
    (0x4000 ≤ n ∧ n < 0x8000 → c.read model a = romByte c.rom r.bank4.toNat (n - 0x4000)) ∧
    (0xA000 ≤ n ∧ n < 0xC000 → c.read model a = if r.ramEnabled then Memory.read c.ram (n % 512) ||| 0xF0 else 0xFF)

/-- The byte of a ROM bank, which every variant's ROM windows read: the bank modulo the bank count of the size code at 0x148, and 0xFF
past the image. MBC1's registers and windows; 0 written to the bank register counts as 1; the two models differ in mode 1 alone
(R123, R125, R131, R132). -/
def Obligations.Mbc1Banks : Prop :=
  (∀ (rom : Image) (bank off : Nat),
    let code := (rom.byte 0x148).toNat
    let i := bank % romBanks rom * 0x4000 + off
    romByte rom bank off = (if i < rom.size then Memory.read rom.cells i else 0xFF) ∧
    romBanks rom =
      if code ≤ 0x08 then 2 ^ (code + 1) else if code = 0x52 then 72 else if code = 0x53 then 80 else if code = 0x54 then 96
      else max 2 ((rom.size + 0x3FFF) / 0x4000)) ∧
  ∀ (c : Cartridge) (r : Mbc1) (model : Mbc1Model) (now : Nat) (a : Word) (v : Byte), c.mbc = .mbc1 r →
    let n := a.toNat
    (n < 0x2000 → c.write now a v = { c with mbc := .mbc1 { r with ramEnabled := decide (v.toNat % 16 = 10) } }) ∧
    (0x2000 ≤ n ∧ n < 0x4000 → c.write now a v =
      { c with mbc := .mbc1 { r with lo5 := if v.toNat % 32 = 0 then 1 else BitVec.ofNat 5 v.toNat } }) ∧
    (0x4000 ≤ n ∧ n < 0x6000 → c.write now a v = { c with mbc := .mbc1 { r with hi2 := BitVec.ofNat 2 v.toNat } }) ∧
    (0x6000 ≤ n ∧ n < 0x8000 → c.write now a v = { c with mbc := .mbc1 { r with mode := decide (v.toNat % 2 = 1) } }) ∧
    (0xA000 ≤ n ∧ n < 0xC000 → c.write now a v = c.ramWrite r.ramEnabled (if r.mode then r.hi2.toNat else 0) (n - 0xA000) v) ∧
    (n < 0x4000 → c.read .hardware a = romByte c.rom (if r.mode then r.hi2.toNat * 32 else 0) n ∧
      c.read .legacy a = romByte c.rom 0 n) ∧
    (0x4000 ≤ n ∧ n < 0x8000 → c.read .hardware a = romByte c.rom (r.hi2.toNat * 32 + r.lo5.toNat) (n - 0x4000) ∧
      c.read .legacy a =
        romByte c.rom (if r.mode then r.lo5.toNat else r.hi2.toNat * 32 + r.lo5.toNat) (n - 0x4000)) ∧
    (0xA000 ≤ n ∧ n < 0xC000 → c.read model a = c.ramRead r.ramEnabled (if r.mode then r.hi2.toNat else 0) (n - 0xA000))

/-- MBC3's registers and windows: RAM for selectors to 0x07, the latched clock for 0x08 to 0x0C, 0xFF beyond; the latch takes a write
of 0 then 1; the clock advances before every access to it; a write to it stores the bits of its mask, 0x3F, 0x3F, 0x1F, 0xFF and
0xC1, in the selected register (R151, R152, R153, R154). The model's choice: it advances with RAM disabled too,
log entry 17. -/
def Obligations.Mbc3BanksAndLatch : Prop :=
  (∀ (x : Rtc) (v : Byte),
    rtcStore x 0x08 v = { x with s := BitVec.ofNat 6 (v.toNat % 0x40) } ∧
    rtcStore x 0x09 v = { x with m := BitVec.ofNat 6 (v.toNat % 0x40) } ∧
    rtcStore x 0x0A v = { x with h := BitVec.ofNat 5 (v.toNat % 0x20) } ∧
    rtcStore x 0x0B v = { x with dl := v } ∧
    rtcStore x 0x0C v = { x with dayHigh := v.getLsbD 0, halt := v.getLsbD 6, carry := v.getLsbD 7 } ∧
    rtcDay x = 256 * x.dayHigh.toNat + x.dl.toNat) ∧
  ∀ (c : Cartridge) (r : Mbc3) (model : Mbc1Model) (now : Nat) (a : Word) (v : Byte), c.mbc = .mbc3 r →
    let n := a.toNat
    let t := r.advance now
    let clock := 0x08 ≤ r.sel.toNat ∧ r.sel.toNat ≤ 0x0C
    (n < 0x2000 → c.write now a v = { c with mbc := .mbc3 { r with ramEnabled := decide (v.toNat % 16 = 10) } }) ∧
    (0x2000 ≤ n ∧ n < 0x4000 → c.write now a v =
      { c with mbc := .mbc3 { r with bank7 := if v.toNat % 128 = 0 then 1 else BitVec.ofNat 7 v.toNat } }) ∧
    (0x4000 ≤ n ∧ n < 0x6000 → c.write now a v = { c with mbc := .mbc3 { r with sel := v } }) ∧
    (0x6000 ≤ n ∧ n < 0x8000 → c.write now a v =
      { c with mbc := .mbc3 (if r.latchArmed = true ∧ v = 1 then { t with latched := t.live, latchArmed := false }
        else { r with latchArmed := decide (v = 0) }) }) ∧
    (0xA000 ≤ n ∧ n < 0xC000 → clock → c.write now a v =
      { c with mbc := .mbc3 { t with live := if r.ramEnabled then rtcStore t.live r.sel v else t.live } }) ∧
    (0xA000 ≤ n ∧ n < 0xC000 → ¬ clock → c.write now a v =
      if r.sel.toNat < 8 then c.ramWrite r.ramEnabled r.sel.toNat (n - 0xA000) v else c) ∧
    (n < 0x4000 → c.read model a = romByte c.rom 0 n ∧ c.afterRead now a = c) ∧
    (0x4000 ≤ n ∧ n < 0x8000 → c.read model a = romByte c.rom r.bank7.toNat (n - 0x4000) ∧ c.afterRead now a = c) ∧
    (0xA000 ≤ n ∧ n < 0xC000 → c.read model a =
      (if r.ramEnabled = false then 0xFF else if r.sel.toNat < 8 then c.ramRead true r.sel.toNat (n - 0xA000)
       else if r.sel = 0x08 then BitVec.ofNat 8 r.latched.s.toNat else if r.sel = 0x09 then BitVec.ofNat 8 r.latched.m.toNat
       else if r.sel = 0x0A then BitVec.ofNat 8 r.latched.h.toNat else if r.sel = 0x0B then r.latched.dl
       else if r.sel = 0x0C then BitVec.ofNat 8
         (r.latched.dayHigh.toNat + 64 * r.latched.halt.toNat + 128 * r.latched.carry.toNat)
       else 0xFF) ∧
      (clock → c.afterRead now a = { c with mbc := .mbc3 t }) ∧ (¬ clock → c.afterRead now a = c))

/-- MBC5's registers and windows: the 9-bit bank in two writes, bank 0 read as bank 1 in the switchable window, the rumble bit on a
rumble cartridge (R166, R167). -/
def Obligations.Mbc5Banks : Prop :=
  ∀ (c : Cartridge) (r : Mbc5) (model : Mbc1Model) (now : Nat) (a : Word) (v : Byte), c.mbc = .mbc5 r →
    let n := a.toNat
    let rumbles := (c.rom.byte 0x147).toNat = 0x1C ∨ (c.rom.byte 0x147).toNat = 0x1D ∨ (c.rom.byte 0x147).toNat = 0x1E
    (n < 0x2000 → c.write now a v = { c with mbc := .mbc5 { r with ramEnabled := decide (v.toNat % 16 = 10) } }) ∧
    (0x2000 ≤ n ∧ n < 0x3000 → c.write now a v =
      { c with mbc := .mbc5 { r with bank9 := BitVec.ofNat 9 (r.bank9.toNat / 256 * 256 + v.toNat) } }) ∧
    (0x3000 ≤ n ∧ n < 0x4000 → c.write now a v =
      { c with mbc := .mbc5 { r with bank9 := BitVec.ofNat 9 (v.toNat % 2 * 256 + r.bank9.toNat % 256) } }) ∧
    (0x4000 ≤ n ∧ n < 0x6000 → rumbles → c.write now a v =
      { c with mbc := .mbc5 { r with rumble := v.getLsbD 3, rbank := BitVec.ofNat 4 (v.toNat % 8) } }) ∧
    (0x4000 ≤ n ∧ n < 0x6000 → ¬ rumbles → c.write now a v =
      { c with mbc := .mbc5 { r with rbank := BitVec.ofNat 4 v.toNat } }) ∧
    (0x6000 ≤ n ∧ n < 0x8000 → c.write now a v = c) ∧
    (0xA000 ≤ n ∧ n < 0xC000 → c.write now a v = c.ramWrite r.ramEnabled r.rbank.toNat (n - 0xA000) v) ∧
    (n < 0x4000 → c.read model a = romByte c.rom 0 n) ∧
    (0x4000 ≤ n ∧ n < 0x8000 → c.read model a =
      romByte c.rom (if r.bank9.toNat = 0 then 1 else r.bank9.toNat) (n - 0x4000)) ∧
    (0xA000 ≤ n ∧ n < 0xC000 → c.read model a = c.ramRead r.ramEnabled r.rbank.toNat (n - 0xA000))

/-- The size of the RAM by variant and by the code at 0x149, its banks, and the place of a bank's byte in it. While the latch is 0, a
read of the RAM window gives 0xFF and a write leaves the RAM as it was, in every variant that has a latch; with it 1, a read gives
the byte at its place, a byte written inside the RAM reads back and every other byte keeps its value (R124, R126, R127). -/
def Obligations.RamEnableGates : Prop :=
  (∀ (c : Cartridge) (bank off : Nat),
    let code := (c.rom.byte 0x149).toNat
    (c.ramSize = match c.mbc with
      | .noMbc _ => 0
      | .mbc2 _ => 512
      | .mbc1 _ | .mbc3 _ | .mbc5 _ =>
        if code = 1 then 2 * 1024 else if code = 2 then 8 * 1024 else if code = 3 then 32 * 1024 else if code = 4 then 128 * 1024
        else if code = 5 then 64 * 1024 else 0) ∧
    c.ramBanks * 0x2000 < c.ramSize + 0x2000 ∧ c.ramSize ≤ c.ramBanks * 0x2000 ∧
    c.ramIndex bank off = bank % c.ramBanks * 0x2000 + off ∧
    c.ramRead true bank off =
      (if 0 < c.ramSize ∧ c.ramIndex bank off < c.ramSize then Memory.read c.ram (c.ramIndex bank off) else 0xFF)) ∧
  ∀ (c : Cartridge) (model : Mbc1Model) (now : Nat) (a : Word) (v : Byte), 0xA000 ≤ a → a ≤ 0xBFFF →
    ((match c.mbc with
      | .noMbc _ => False
      | .mbc1 r => r.ramEnabled = false
      | .mbc2 r => r.ramEnabled = false
      | .mbc3 r => r.ramEnabled = false
      | .mbc5 r => r.ramEnabled = false) →
      c.read model a = 0xFF ∧ (c.write now a v).ram = c.ram ∧ (c.write now a v).read model a = 0xFF) ∧
    (∀ bank off b o : Nat, CartWf c → 0 < c.ramSize → c.ramIndex bank off < c.ramSize →
      (c.ramWrite true bank off v).ramRead true b o =
        if c.ramIndex b o = c.ramIndex bank off then v else c.ramRead true b o) ∧
    (∀ bank off : Nat, c.ramSize = 0 ∨ c.ramSize ≤ c.ramIndex bank off →
      c.ramWrite true bank off v = c ∧ c.ramRead true bank off = 0xFF)

/-- The clock counts seconds: from a time of day in range, `n` seconds add `n` to the count of days, hours, minutes and seconds
modulo 512 days, and the carry sets on the wrap past day 511 alone; halted, nothing counts, and the seconds that pass are dropped. A
value out of range counts up to its field's width and wraps with no carry. Advancing more often reaches the same values
(R155, R156). -/
def Obligations.RtcCountsSeconds : Prop :=
  ∀ (r : Rtc) (n : Nat),
    let value := fun x : Rtc => ((rtcDay x * 24 + x.h.toNat) * 60 + x.m.toNat) * 60 + x.s.toNat
    let inRange := fun x : Rtc => x.s.toNat < 60 ∧ x.m.toNat < 60 ∧ x.h.toNat < 24
    (r.halt = false → inRange r →
      value (rtcTicks n r) = (value r + n) % (512 * 86400) ∧ inRange (rtcTicks n r) ∧ (rtcTicks n r).halt = false ∧
      (rtcTicks n r).carry = (r.carry || decide (512 * 86400 ≤ value r + n))) ∧
    (r.halt = true → rtcTicks n r = r) ∧
    (r.halt = false → r.s ≠ 59 → rtcTick r = { r with s := r.s + 1 }) ∧
    (r.halt = false → r.s = 59 → r.m ≠ 59 → rtcTick r = { r with s := 0, m := r.m + 1 }) ∧
    (r.halt = false → r.s = 59 → r.m = 59 → r.h ≠ 23 → rtcTick r = { r with s := 0, m := 0, h := r.h + 1 }) ∧
    (∀ (m : Mbc3) (now : Nat),
      m.advance now = { m with live := rtcTicks (now - m.lastTime) m.live, lastTime := now }) ∧
    (∀ (m : Mbc3) (now later : Nat), m.lastTime ≤ now → now ≤ later →
      (m.advance now).advance later = m.advance later)

/-! ### Timer and joypad (60_exceptions.md) -/

/-- Advancing by `m + n` cycles is advancing by `m`, then by `n`; one cycle moves DIV at the 256th and, with TAC bit 2 set, TIMA at
the period's last; an overflow of TIMA reloads TMA and requests the Timer interrupt; cycles kept from a longer period count at the
next advance. Disabled, the timer keeps its cycles, however many (R450, R454, R455, R456). -/
def Obligations.TimerCountsCycles : Prop :=
  (∀ s : State,
    let x := s.bus.timer
    timaIncrement s =
      if x.tima = 0xFF then
        { s with bus := { s.bus with timer := { x with tima := x.tma }, ifReg := s.bus.ifReg ||| 0b00100 } }
      else { s with bus := { s.bus with timer := { x with tima := x.tima + 1 } } }) ∧
  (∀ s : State, s.bus.timer.divAcc < 256 →
    (s.bus.timer.tac.getLsbD 2 = true → s.bus.timer.timaAcc < timaPeriod s.bus.timer.tac) →
    timerAdvance 0 s = s ∧ (∀ m n, timerAdvance (m + n) s = timerAdvance n (timerAdvance m s)) ∧
    timerAdvance 1 s =
      let x := s.bus.timer
      let d := if x.divAcc = 255 then { x with divAcc := 0, div := x.div + 1 } else { x with divAcc := x.divAcc + 1 }
      let whole := decide (x.timaAcc + 1 = timaPeriod x.tac)
      if x.tac.getLsbD 2 = false then { s with bus := { s.bus with timer := d } }
      else if whole then timaIncrement { s with bus := { s.bus with timer := { d with timaAcc := 0 } } }
      else { s with bus := { s.bus with timer := { d with timaAcc := x.timaAcc + 1 } } }) ∧
  (∀ s : State, s.bus.timer.tac.getLsbD 2 = true → timaPeriod s.bus.timer.tac ≤ s.bus.timer.timaAcc →
    ∀ n, timaAdvance n s = timaAdvance n (timaIncrement { s with bus := { s.bus with timer :=
      { s.bus.timer with timaAcc := s.bus.timer.timaAcc - timaPeriod s.bus.timer.tac } } })) ∧
  [timaPeriod 4, timaPeriod 5, timaPeriod 6, timaPeriod 7] = [1024, 16, 64, 256]

/-- `setButton`: a press of a released button of slot 0 requests the Joypad interrupt, with `JOYPAD_IRQ_SELECTED` only where its group
is selected; a release requests nothing; the buttons of every slot are stored, and those of slots other than 0 reach neither JOYP
nor IF (R460, R462). -/
def Obligations.ButtonsReachJoyp : Prop :=
  ∀ (s : State) (slot : Nat) (k q : Button) (pressed : Bool),
    let t := s.setButton slot k pressed
    let dpad := k = .up ∨ k = .down ∨ k = .left ∨ k = .right
    let selected := if dpad then s.bus.joypad.sel.getLsbD 0 = false else s.bus.joypad.sel.getLsbD 1 = false
    (slot = 0 → buttonOf t.bus.joypad.slot0 q = if q = k then pressed else buttonOf s.bus.joypad.slot0 q) ∧
    (∀ m, buttonOf (t.slotButtons m) q = if m = slot ∧ q = k then pressed else buttonOf (s.slotButtons m) q) ∧
    (slot = 0 → pressed = true → buttonOf s.bus.joypad.slot0 k = false →
      (s.params.joypadIrqSelected = false ∨ selected) → t.bus.ifReg = s.bus.ifReg ||| 0b10000) ∧
    (slot ≠ 0 ∨ pressed = false ∨ buttonOf s.bus.joypad.slot0 k = true ∨
      (s.params.joypadIrqSelected = true ∧ ¬ selected) → t.bus.ifReg = s.bus.ifReg) ∧
    (slot ≠ 0 → t.peek 0xFF00 = s.peek 0xFF00) ∧ t.regs = s.regs ∧ t.bus.joypad.sel = s.bus.joypad.sel

/-! ### Video (61_video.md) -/

/-- With the LCD on, 456 cycles move the engine to the same cycle of the next line, line 0 after line 153, so a frame is 70224 cycles;
advancing by `m + n` cycles is advancing by `m`, then by `n`. With LCDC bit 7 clear, an advance pins line, cycle, mode and frame
state and keeps pictures, `coinc` and IF. The advance that finds the bit set again starts at line 0, cycle 0, in OAMScan, with the
LYC check and the STAT sources of both, and ticks from there (R510, R511, R512, R517, R519, R521). -/
def Obligations.FrameIs70224Cycles : Prop :=
  ∀ s : State,
    let hit := decide (0 = s.video.lyc.toNat)
    let stat := (hit && s.video.statSel.getLsbD 3) || s.video.statSel.getLsbD 2
    (s.video.lcdc.getLsbD 7 = true → s.video.lcdActive = true → s.video.ly ≤ 153 → s.video.lineCycle ≤ 455 →
      (videoAdvance 456 s).video.ly = (if s.video.ly = 153 then 0 else s.video.ly + 1) ∧
      (videoAdvance 456 s).video.lineCycle = s.video.lineCycle ∧
      (videoAdvance 70224 s).video.ly = s.video.ly ∧ (videoAdvance 70224 s).video.lineCycle = s.video.lineCycle ∧
      ∀ m n, videoAdvance (m + n) s = videoAdvance n (videoAdvance m s)) ∧
    (s.video.lcdc.getLsbD 7 = true → s.video.lcdActive = true → ∀ c, videoAdvance c s = videoTicks c s) ∧
    (s.video.lcdc.getLsbD 7 = true → s.video.lcdActive = false → ∀ c, videoAdvance c s = videoTicks c
      { s with
        video := { s.video with lcdActive := true, ly := 0, lineCycle := 0, coinc := hit, mode := .oamScan }
        bus := { s.bus with ifReg := s.bus.ifReg ||| (if stat then 0b00010 else 0) } }) ∧
    (s.video.lcdc.getLsbD 7 = false → ∀ c, videoAdvance c s =
      { s with video := { s.video with ly := 0, mode := .hblank, lineCycle := 0, winLine := 0, winYLatch := false,
                                       winDrawn := false, spriteBuf := [], lcdActive := false } })

/-- The mode of each cycle of a visible line: OAMScan below 80, Draw from 80, HBlank from 252 + SCX mod 8 and the window penalty
where the window covers a pixel of the line. Inside the line IF changes at the entry to HBlank alone, which sets its bit 1 where
STAT bit 3 is 1, and no other register of the bus changes; on lines 144 to 153 the line cycle alone moves (R510, R513, R515, R516,
R520). -/
def Obligations.ModeFollowsTheLineCycle : Prop :=
  (∀ (s : State) (c : Nat), 144 ≤ s.video.ly → s.video.lineCycle + c ≤ 455 →
    videoTicks c s = { s with video := { s.video with lineCycle := s.video.lineCycle + c } }) ∧
  ∀ (s : State) (c : Nat), s.video.ly < 144 → s.video.lineCycle = 0 → s.video.mode = .oamScan → c ≤ 455 →
    s.params.windowPenalty ≤ 196 →
    let v := s.video
    let window := (v.winYLatch || decide (v.ly = v.wy.toNat)) && v.lcdc.getLsbD 5 && v.lcdc.getLsbD 0 &&
      decide (v.wx.toNat ≤ 166)
    let drawEnd := 252 + v.scx.toNat % 8 + (if window then s.params.windowPenalty else 0)
    (videoTicks c s).video.mode = (if c < 80 then .oamScan else if c < drawEnd then .draw else .hblank) ∧
    (videoTicks c s).video.lineCycle = c ∧ (videoTicks c s).video.ly = v.ly ∧
    (videoTicks c s).bus = { s.bus with
      ifReg := s.bus.ifReg ||| (if drawEnd ≤ c ∧ v.statSel.getLsbD 0 = true then 0b00010 else 0) }

/-- The end of line 143 requests the VBlank interrupt, shows the rendered rows and resets the window's frame state; the ends of other
lines request the LCD-STAT interrupt alone, each source where STAT selects it, and LYC is compared with the new line. The line's
transient state is reset (R517, R518, R520, R521, R532). -/
def Obligations.LineEndInterrupts : Prop :=
  ∀ s : State, s.video.lineCycle = 455 → s.video.ly ≤ 153 →
    let t := videoTick s
    let ly := if s.video.ly = 153 then 0 else s.video.ly + 1
    let hit := decide (ly = s.video.lyc.toNat)
    let stat := (hit && s.video.statSel.getLsbD 3) || (decide (ly < 144) && s.video.statSel.getLsbD 2) ||
      (decide (ly = 144) && s.video.statSel.getLsbD 1)
    t.video.ly = ly ∧ t.video.lineCycle = 0 ∧ t.video.coinc = hit ∧
    t.bus.ifReg = (s.bus.ifReg ||| (if stat then 0b00010 else 0)) ||| (if ly = 144 then 0b00001 else 0) ∧
    (ly < 144 → t.video.mode = .oamScan) ∧ (ly = 144 → t.video.mode = .vblank) ∧
    (144 < ly → t.video.mode = s.video.mode) ∧
    t.video.winLine = (if ly = 144 then 0 else if s.video.winDrawn then s.video.winLine + 1 else s.video.winLine) ∧
    t.video.winYLatch = (s.video.winYLatch && decide (ly ≠ 144)) ∧
    t.video.viewport = (if ly = 144 then s.video.lines else s.video.viewport) ∧ t.video.lines = s.video.lines ∧
    t.video.spriteBuf = [] ∧ t.video.drawEnd = 252 ∧ t.video.winDrawn = false

/-- The viewport changes at the entry to line 144 alone, where it becomes the rendered rows; a cycle writes no row of the rendered
picture but the current line's (R531, R533). -/
def Obligations.ViewportChangesAtVblankAlone : Prop :=
  ∀ (s : State) (y x : Nat), x < 160 →
    (videoTick s).video.viewport =
      (if s.video.lineCycle = 455 ∧ s.video.ly = 143 then s.video.lines else s.video.viewport) ∧
    (y ≠ s.video.ly → Frame.read (videoTick s).video.lines y x = Frame.read s.video.lines y x) ∧
    (Frame.wf s.video.lines → s.video.ly < 144 → s.video.mode = .oamScan → s.video.lineCycle = 79 →
      Frame.read (videoTick s).video.lines s.video.ly x =
        pixel { s.video with lineCycle := 80, spriteBuf := oamScan { s.video with lineCycle := 80 },
                             winYLatch := s.video.winYLatch || decide (s.video.ly = s.video.wy.toNat) } x)

/-- The scan keeps the first 10 entries of OAM order whose rows cover the line and whose xPos is at least -7, sorted by xPos with ties
in OAM order; the sprite pixel at `x` is then an entry that covers `x` with a color index other than 0, and no such entry has a
lower xPos, or the same and a lower OAM index; there is none where no entry qualifies or LCDC bit 1 is 0 (R514, R528). -/
def Obligations.SpriteSelectionAndPriority : Prop :=
  ∀ (v : Video) (x : Nat),
    let h : Int := if v.lcdc.getLsbD 2 then 16 else 8
    let fits := fun s : Sprite => decide (s.yPos ≤ v.ly ∧ (v.ly : Int) < s.yPos + h ∧ -7 ≤ s.xPos)
    let before := fun s t : Sprite => s.xPos < t.xPos ∨ (s.xPos = t.xPos ∧ s.index < t.index)
    let covers := fun s : Sprite => s.xPos ≤ (x : Int) ∧ (x : Int) < s.xPos + 8
    (∀ i, (oamSprite v i).index = i ∧ (oamSprite v i).yPos = (Memory.read v.oam (4 * i)).toNat - (16 : Int) ∧
      (oamSprite v i).xPos = (Memory.read v.oam (4 * i + 1)).toNat - (8 : Int) ∧
      (oamSprite v i).tile = Memory.read v.oam (4 * i + 2) ∧ (oamSprite v i).attr = Memory.read v.oam (4 * i + 3)) ∧
    (oamScan v).Perm ((((List.range 40).map (oamSprite v)).filter fits).take 10) ∧ (oamScan v).Pairwise before ∧
    (∀ s o, spritePixel { v with spriteBuf := oamScan v } x = some (s, o) →
      s ∈ oamScan v ∧ covers s ∧ o = objIndex v s x ∧ o ≠ 0 ∧
      ∀ t ∈ oamScan v, covers t → objIndex v t x ≠ 0 → t = s ∨ before s t) ∧
    (spritePixel { v with spriteBuf := oamScan v } x = none ↔
      v.lcdc.getLsbD 1 = false ∨ ∀ s ∈ oamScan v, ¬ (covers s ∧ objIndex v s x ≠ 0))

/-- The pixel: a sprite's color through its palette, unless the sprite is behind a background of color index other than 0; else the
background's color through BGP, where the window covers `x` the window's; color 0 and shade 0 with LCDC bit 0 clear. The color
indexes of the background, the window and a sprite, spelled out from the bytes of VRAM: the tile map, the tile the index selects,
the scroll, the flips, the two bitplanes (R522 to R527, R529, R530). -/
def Obligations.PixelComposition : Prop :=
  ∀ (v : Video) (x : Nat),
    let vram := fun i : Nat => (Memory.read v.vram i).toNat
    let bit := fun (i k : Nat) => vram i / 2 ^ k % 2
    let color := fun tile row col : Nat => 2 * bit (16 * tile + 2 * row + 1) (7 - col) + bit (16 * tile + 2 * row) (7 - col)
    let map := fun (high : Bool) (across down : Nat) =>
      let idx := vram ((if high then 0x1C00 else 0x1800) + down / 8 * 32 + across / 8)
      color (if v.lcdc.getLsbD 4 = false ∧ idx < 128 then 256 + idx else idx) (down % 8) (across % 8)
    (bgIndex v x).toNat = map (v.lcdc.getLsbD 3) ((x + v.scx.toNat) % 256) ((v.ly + v.scy.toNat) % 256) ∧
    (v.wx.toNat ≤ x + 7 → (winIndex v x).toNat = map (v.lcdc.getLsbD 6) (x + 7 - v.wx.toNat) v.winLine) ∧
    (∀ (s : Sprite) (down across : Nat),
      let h := if v.lcdc.getLsbD 2 then 16 else 8
      let row := if s.attr.getLsbD 6 then h - 1 - down else down
      let col := if s.attr.getLsbD 5 then 7 - across else across
      (v.ly : Int) = s.yPos + down → down < h → (x : Int) = s.xPos + across → across < 8 →
      (objIndex v s x).toNat =
        if v.lcdc.getLsbD 2 then color (s.tile.toNat / 2 * 2 + row / 8) (row % 8) col else color s.tile.toNat row col) ∧
    let window := v.winYLatch && v.lcdc.getLsbD 5 && decide (v.wx.toNat ≤ 166) && decide (v.wx.toNat ≤ x + 7)
    let b : BitVec 2 := if v.lcdc.getLsbD 0 then (if window then winIndex v x else bgIndex v x) else 0
    let back : Nat := if v.lcdc.getLsbD 0 then v.bgp.toNat / 4 ^ b.toNat % 4 else 0
    (spritePixel v x = none → (pixel v x).toNat = back) ∧
    (∀ s o, spritePixel v x = some (s, o) → o ≠ 0 ∧ o = objIndex v s x ∧
      (s.attr.getLsbD 7 = true ∧ b ≠ 0 → (pixel v x).toNat = back) ∧
      (¬ (s.attr.getLsbD 7 = true ∧ b ≠ 0) →
        (pixel v x).toNat = (if s.attr.getLsbD 4 then v.obp1 else v.obp0).toNat / 4 ^ o.toNat % 4)) ∧
    (v.lcdc.getLsbD 1 = false → spritePixel v x = none)

/-! ### Construction, reset and the machine's invariant (70_reset_and_hazards.md) -/

/-- The values construction gives, post-boot without a boot ROM and all 0 with one, as the tables of R571, R573 and R574 state
them; what the registers read then; the flat array, VRAM, OAM and wave RAM as `RAM_INIT` has them; the cartridge the load gives
(R570 to R575). The model's choices: after a failed load there is a machine, with no cartridge, log entry 22; no button of slot 0 is
pressed, with a boot ROM too, log entry 4. -/
def Obligations.ResetValues : Prop :=
  ∀ (p : Params) (now : Nat),
    let s := State.construct p now
    (s.ime = false ∧ s.imePending = false ∧ s.haltBugArmed = false ∧ s.runState = .running ∧
      s.bus.bootActive = p.bootRom.isSome ∧ s.bus.timer.divAcc = 0 ∧ s.bus.timer.timaAcc = 0 ∧ s.bus.joypad.sel = 0 ∧
      s.bus.joypad.slot0 = noButtons ∧ s.video.ly = 0 ∧ s.video.lineCycle = 0 ∧ s.video.coinc = true ∧
      s.video.winYLatch = false ∧ s.video.winLine = 0 ∧ s.video.winDrawn = false ∧ s.video.drawEnd = 252 ∧
      s.video.spriteBuf = [] ∧ s.video.lines = [] ∧ s.video.viewport = [] ∧ s.video.statSel = 0) ∧
    (p.bootRom = none →
      s.regs = { a := 0x01, f := 0xB0, b := 0x00, c := 0x13, d := 0x00, e := 0xD8, h := 0x01, l := 0x4D, sp := 0xFFFE,
                 pc := 0x0100 } ∧
      s.video.mode = .oamScan ∧ s.video.lcdActive = true ∧
      [0xFF00, 0xFF01, 0xFF02, 0xFF04, 0xFF05, 0xFF06, 0xFF07, 0xFF0F, 0xFFFF, 0xFF26, 0xFF40, 0xFF41, 0xFF42, 0xFF43,
        0xFF44, 0xFF45, 0xFF46, 0xFF47, 0xFF48, 0xFF49, 0xFF4A, 0xFF4B].map s.peek =
      [0xCF, 0x00, 0x7E, 0xAB, 0x00, 0x00, 0xF8, 0xE1, 0x00, 0xF0, 0x91, 0x86, 0x00, 0x00,
        0x00, 0x00, 0xFF, 0xFC, 0x00, 0x00, 0x00, 0x00]) ∧
    (s.cart = match loadCartridge p.rom p.cartRamInit now with | .ok c => some c | .error _ => none) ∧
    (∀ a : Word, match route p a with
      | .flat i => s.peek a = Memory.read p.ramInit i
      | .vram _ | .oam _ | .io (.wave _) => s.peek a = Memory.read p.ramInit a.toNat
      | .io (.audio _) => p.bootRom.isSome = true → s.peek a = 0
      | .cart | .ie | .io _ => True) ∧
    (p.bootRom = none →
      [0xFF10, 0xFF11, 0xFF12, 0xFF13, 0xFF14, 0xFF15, 0xFF16, 0xFF17, 0xFF18, 0xFF19, 0xFF1A, 0xFF1B, 0xFF1C, 0xFF1D,
        0xFF1E, 0xFF1F, 0xFF20, 0xFF21, 0xFF22, 0xFF23, 0xFF24, 0xFF25].map s.peek =
      [0x80, 0xBF, 0xF3, 0xFF, 0xBF, 0x00, 0x3F, 0x00, 0xFF, 0xBF, 0x7F, 0xFF, 0x9F, 0xFF,
        0xBF, 0x00, 0xFF, 0x00, 0x00, 0xBF, 0x77, 0xF3]) ∧
    (p.bootRom.isSome = true →
      s.regs = { a := 0, f := 0, b := 0, c := 0, d := 0, e := 0, h := 0, l := 0, sp := 0, pc := 0 } ∧
      s.video.mode = .hblank ∧ s.video.lcdActive = false ∧
      [0xFF00, 0xFF01, 0xFF02, 0xFF04, 0xFF05, 0xFF06, 0xFF07, 0xFF0F, 0xFFFF, 0xFF26, 0xFF40, 0xFF41, 0xFF42, 0xFF43,
        0xFF44, 0xFF45, 0xFF46, 0xFF47, 0xFF48, 0xFF49, 0xFF4A, 0xFF4B].map s.peek =
      [0xCF, 0x00, 0x00, 0x00, 0x00, 0x00, 0xF8, 0xE0, 0x00, 0x70, 0x00, 0x84, 0x00, 0x00,
        0x00, 0x00, 0x00, 0x00, 0x00, 0x00, 0x00, 0x00])

/-- Loading the ROM: the variant of the type byte at 0x147 with its registers, and the error for any other byte and for an image too
short to have a header (with no type byte: the model's choice, log entry 14); the RAM as `CART_RAM_INIT` has it. `getRAM` after `setRAM`: the given bytes from the start, as many as fit, and the rest as it was (R122, R126,
R130, R140, R150, R165, R175, R575). -/
def Obligations.CartridgeLoadAndBatteryRam : Prop :=
  (∀ (rom : Image) (init : Memory) (now : Nat),
    let t := (rom.byte 0x147).toNat
    (rom.size < 0x150 → loadCartridge rom init now = .error (.cartridgeTypeUnrecognized none)) ∧
    (0x150 ≤ rom.size →
      (loadCartridge rom init now = .error (.cartridgeTypeUnrecognized (some (rom.byte 0x147))) ↔
        t ∉ [0x00, 0x01, 0x02, 0x03, 0x05, 0x06, 0x08, 0x09, 0x0F, 0x10, 0x11, 0x12, 0x13, 0x19, 0x1A, 0x1B, 0x1C, 0x1D, 0x1E]) ∧
      ∀ c, loadCartridge rom init now = .ok c → c.rom = rom ∧
        (∀ i < c.ramSize, Memory.read c.ram i = Memory.read init i) ∧
        (t ∈ [0x00, 0x08, 0x09] → c.mbc = .noMbc []) ∧
        (t ∈ [0x01, 0x02, 0x03] → c.mbc = .mbc1 { ramEnabled := false, lo5 := 1, hi2 := 0, mode := false }) ∧
        (t ∈ [0x05, 0x06] → c.mbc = .mbc2 { ramEnabled := false, bank4 := 1 }) ∧
        (t ∈ [0x0F, 0x10, 0x11, 0x12, 0x13] → ∃ r, c.mbc = .mbc3 r ∧ r.ramEnabled = false ∧ r.bank7 = 1 ∧ r.sel = 0 ∧
          r.latchArmed = false ∧ r.live = r.latched ∧ rtcDay r.live = 0 ∧ r.live.s = 0 ∧ r.live.m = 0 ∧ r.live.h = 0 ∧
          r.live.halt = false ∧ r.live.carry = false ∧ r.lastTime = now) ∧
        (t ∈ [0x19, 0x1A, 0x1B, 0x1C, 0x1D, 0x1E] →
          c.mbc = .mbc5 { ramEnabled := false, bank9 := 1, rbank := 0, rumble := false }))) ∧
  ∀ (c : Cartridge) (bytes old : List Byte), CartWf c → c.getRam = some old →
    old.length = c.ramSize ∧ (c.setRam bytes).getRam = some (bytes.take c.ramSize ++ old.drop bytes.length) ∧
    (c.setRam bytes).mbc = c.mbc ∧ (c.setRam old) = c

/-- The invariant holds after every construction with parameters in their ranges, reset among them. -/
def Obligations.InvariantAtReset : Prop :=
  (∀ (p : Params) (now : Nat), p.inRange → Inv (State.construct p now)) ∧ Inv State.reset

/-- Every step keeps the invariant: F's low nibble 0, the memories canonical, the counters and the mode of the video engine in step
with its line cycle, no bank register at 0 where 0 counts as 1, no overlay without a boot ROM, no halt bug armed without
`HALT_BUG` (R31, R39, R74, R131, R141, R151, R450, R500, R511, R513). -/
def Obligations.StepKeepsInvariant : Prop :=
  ∀ s t : State, Inv s → step s = .next t → Inv t
end

