-- ==== Sys2Proof/Laws/Cells.lean ====
section
/-! SUPPORT. What sparse memories do: a read after a write, and the canonical form kept by every operation. -/

namespace Sys2Proof

variable {w : Nat} {u : Nat → BitVec w} {m : List (Nat × BitVec w)}

theorem cellsWf_nil : CellsWf u ([] : List (Nat × BitVec w)) := ⟨List.Pairwise.nil, by simp⟩

theorem cellsWf_cons {k : Nat} {x : BitVec w} :
    CellsWf u ((k, x) :: m) ↔ (∀ c ∈ m, k < c.1) ∧ x ≠ u k ∧ CellsWf u m := by
  simp [CellsWf, List.pairwise_cons]
  tauto

/-- An index below every listed one reads as unlisted. -/
theorem readCell_below {i : Nat} (h : ∀ c ∈ m, i < c.1) : readCell u m i = u i := by
  induction m with
  | nil => rfl
  | cons c m ih =>
    obtain ⟨k, x⟩ := c
    have hk : i < k := h (k, x) (by simp)
    simp only [readCell, if_neg (Nat.ne_of_lt hk)]
    exact ih fun c hc => h c (by simp [hc])

/-- A write lists no index but its own and those listed before. -/
theorem mem_writeCell {i : Nat} {v : BitVec w} {c : Nat × BitVec w} (h : c ∈ writeCell u m i v) : c = (i, v) ∨ c ∈ m := by
  induction m with
  | nil =>
    simp only [writeCell] at h
    split at h <;> simp_all
  | cons d m ih =>
    obtain ⟨k, x⟩ := d
    simp only [writeCell] at h
    split at h
    · split at h <;> simp_all
    · split at h
      · split at h
        · simp [h]
        · rcases List.mem_cons.1 h with h | h <;> simp [h]
      · rcases List.mem_cons.1 h with h | h
        · simp [h]
        · rcases ih h with h | h <;> simp [h]

theorem writeCell_wf {i : Nat} {v : BitVec w} (h : CellsWf u m) : CellsWf u (writeCell u m i v) := by
  induction m with
  | nil =>
    simp only [writeCell]
    split
    · exact cellsWf_nil
    · next hv => exact cellsWf_cons.2 ⟨by simp, hv, cellsWf_nil⟩
  | cons d m ih =>
    obtain ⟨k, x⟩ := d
    obtain ⟨hk, hx, hm⟩ := cellsWf_cons.1 h
    simp only [writeCell]
    split
    · next hik =>
      split
      · exact h
      · next hv =>
        refine cellsWf_cons.2 ⟨fun c hc => ?_, hv, h⟩
        rcases List.mem_cons.1 hc with rfl | hc
        · exact hik
        · exact Nat.lt_trans hik (hk c hc)
    · split
      · next hik =>
        subst hik
        split
        · exact hm
        · next hv => exact cellsWf_cons.2 ⟨hk, hv, hm⟩
      · next h1 h2 =>
        refine cellsWf_cons.2 ⟨fun c hc => ?_, hx, ih hm⟩
        rcases mem_writeCell hc with rfl | hc
        · show k < i; omega
        · exact hk c hc

/-- A read after a write: the value at the index written, every other index as before. -/
theorem readCell_writeCell {i j : Nat} {v : BitVec w} (h : CellsWf u m) :
    readCell u (writeCell u m i v) j = if j = i then v else readCell u m j := by
  induction m with
  | nil =>
    simp only [writeCell]
    split
    · next hv => split <;> simp_all [readCell]
    · simp [readCell]
  | cons d m ih =>
    obtain ⟨k, x⟩ := d
    obtain ⟨hk, hx, hm⟩ := cellsWf_cons.1 h
    simp only [writeCell]
    split
    · next hik =>
      split
      · next hv =>
        split
        · next hji =>
          subst hji
          rw [readCell_below (fun c hc => ?_), hv]
          rcases List.mem_cons.1 hc with rfl | hc
          · exact hik
          · exact Nat.lt_trans hik (hk c hc)
        · rfl
      · simp [readCell]
    · split
      · next hik =>
        subst hik
        split
        · next hv =>
          by_cases hji : j = i
          · simp [hji, readCell_below hk, hv]
          · simp [readCell, hji]
        · by_cases hji : j = i <;> simp [readCell, hji]
      · next h1 h2 =>
        by_cases hjk : j = k
        · subst hjk; simp [readCell, Ne.symm h2]
        · simp [readCell, hjk, ih hm]

/-- A read at an index not written, canonical form or not. -/
theorem readCell_writeCell_ne {i j : Nat} {v : BitVec w} (h : j ≠ i) : readCell u (writeCell u m i v) j = readCell u m j := by
  induction m with
  | nil =>
    simp only [writeCell]
    split <;> simp [readCell, h]
  | cons d m ih =>
    obtain ⟨k, x⟩ := d
    simp only [writeCell]
    split
    · split <;> simp [readCell, h]
    · split
      · next hik =>
        subst hik
        split <;> simp [readCell, h]
      · simp only [readCell, ih]

/-! ### Memories and pictures -/

theorem Memory.wf_nil : Memory.wf [] := cellsWf_nil

theorem Memory.write_wf {m : Memory} {i : Nat} {v : Byte} (h : Memory.wf m) : Memory.wf (Memory.write m i v) := writeCell_wf h

theorem Memory.read_write {m : Memory} {i j : Nat} {v : Byte} (h : Memory.wf m) :
    Memory.read (Memory.write m i v) j = if j = i then v else Memory.read m j := readCell_writeCell h

theorem Memory.read_write_ne {m : Memory} {i j : Nat} {v : Byte} (h : j ≠ i) :
    Memory.read (Memory.write m i v) j = Memory.read m j := readCell_writeCell_ne h

theorem Memory.writeAll_wf {bytes : List Byte} {m : Memory} {i : Nat} (h : Memory.wf m) :
    Memory.wf (Memory.writeAll m i bytes) := by
  induction bytes generalizing m i with
  | nil => exact h
  | cons v vs ih => exact ih (Memory.write_wf h)

/-- A byte list written from `i` on: its bytes there, every other index as before. -/
theorem Memory.read_writeAll {bytes : List Byte} {m : Memory} {i j : Nat} (h : Memory.wf m) :
    Memory.read (Memory.writeAll m i bytes) j =
      if i ≤ j then (bytes[j - i]?).getD (Memory.read m j) else Memory.read m j := by
  induction bytes generalizing m i with
  | nil => simp [Memory.writeAll]
  | cons v vs ih =>
    rw [Memory.writeAll, ih (Memory.write_wf h), Memory.read_write h]
    by_cases hji : j = i
    · subst hji
      simp
    · by_cases hle : i ≤ j
      · have h1 : i + 1 ≤ j := by omega
        have h2 : j - i = j - (i + 1) + 1 := by omega
        rw [if_pos h1, if_pos hle, if_neg hji, h2, List.getElem?_cons_succ]
      · rw [if_neg (by omega), if_neg hle, if_neg hji]

theorem Memory.normal_wf (cells : List Host.Cell) : Memory.wf (Memory.normal cells) := by
  induction cells with
  | nil => exact Memory.wf_nil
  | cons c cs ih => exact Memory.write_wf ih

theorem Memory.read_normal (cells : List Host.Cell) (i : Nat) : Memory.read (Memory.normal cells) i = Memory.read cells i := by
  induction cells with
  | nil => rfl
  | cons c cs ih =>
    have h : Memory.normal (c :: cs) = Memory.write (Memory.normal cs) c.1 c.2 := rfl
    rw [h, Memory.read_write (Memory.normal_wf cs), ih]
    rfl

theorem Memory.slice_wf (m : Memory) (base size dst : Nat) : Memory.wf (Memory.slice m base size dst) := Memory.normal_wf _

/-- A slice reads as the memory it is taken from, index by index, and 0x00 outside. -/
theorem Memory.read_slice (m : Memory) (base size dst i : Nat) :
    Memory.read (Memory.slice m base size dst) i =
      if dst ≤ i ∧ i < dst + size then Memory.read m (i - dst + base) else 0 := by
  unfold Memory.slice
  rw [Memory.read_normal]
  induction m with
  | nil => simp [Memory.read, readCell]
  | cons c cs ih =>
    obtain ⟨k, v⟩ := c
    simp only [Memory.read] at ih ⊢
    by_cases hk : base ≤ k ∧ k < base + size
    · simp only [List.filter_cons, hk, and_self, decide_true, if_true, List.map_cons, readCell, ih]
      by_cases hi : i = k - base + dst
      · have h1 : dst ≤ i ∧ i < dst + size := by omega
        have h2 : i - dst + base = k := by omega
        rw [if_pos hi, if_pos h1, if_pos h2]
      · simp only [hi, if_false]
        split
        · next h1 =>
          have h2 : i - dst + base ≠ k := by omega
          simp [h2]
        · rfl
    · simp only [List.filter_cons, hk, decide_false, Bool.false_eq_true, if_false, ih, readCell]
      split
      · next h1 =>
        have h2 : i - dst + base ≠ k := by omega
        simp [h2]
      · rfl

theorem Frame.wf_nil : Frame.wf [] := cellsWf_nil

theorem Frame.write_wf {f : Frame} {y x : Nat} {v : Shade} (h : Frame.wf f) : Frame.wf (Frame.write f y x v) := writeCell_wf h

theorem Frame.read_write {f : Frame} {y x y' x' : Nat} {v : Shade} (h : Frame.wf f) (hx : x < 160) (hx' : x' < 160) :
    Frame.read (Frame.write f y x v) y' x' = if y' = y ∧ x' = x then v else Frame.read f y' x' := by
  unfold Frame.read Frame.write
  rw [readCell_writeCell h]
  have : 160 * y' + x' = 160 * y + x ↔ y' = y ∧ x' = x := by omega
  simp [this]

theorem arrWrite_wf {rom : Image} {arr : Memory} {i : Nat} {v : Byte} (h : CellsWf (Image.byte rom) arr) :
    CellsWf (Image.byte rom) (arrWrite rom arr i v) := writeCell_wf h

theorem arrRead_arrWrite {rom : Image} {arr : Memory} {i j : Nat} {v : Byte} (h : CellsWf (Image.byte rom) arr) :
    arrRead rom (arrWrite rom arr i v) j = if j = i then v else arrRead rom arr j := readCell_writeCell h

/-- An image made of a byte list gives its bytes, and the sentinel past its end (21_cartridge.md R125). -/
theorem Image.byte_ofList (bytes : List Byte) (i : Nat) : (Image.ofList bytes).byte i = (bytes[i]?).getD 0xFF := by
  have h : ∀ (vs : List Byte) (m : Memory) (k j : Nat), Memory.wf m →
      Memory.read (Memory.writeAll m k vs) j = if k ≤ j ∧ j < k + vs.length then (vs[j - k]?).getD 0 else Memory.read m j := by
    intro vs
    induction vs with
    | nil => intro m k j hm; simp [Memory.writeAll]
    | cons v vs ih =>
      intro m k j hm
      simp only [Memory.writeAll, ih _ _ _ (Memory.write_wf hm), Memory.read_write hm, List.length_cons]
      by_cases hjk : j = k
      · subst hjk; simp
      · by_cases h1 : k + 1 ≤ j ∧ j < k + 1 + vs.length
        · have h2 : k ≤ j ∧ j < k + (vs.length + 1) := by omega
          have h3 : j - k = (j - (k + 1)) + 1 := by omega
          simp [h1, h2, h3]
        · have h2 : ¬ (k ≤ j ∧ j < k + (vs.length + 1)) := by omega
          rw [if_neg h1, if_neg h2, if_neg hjk]
  unfold Image.byte Image.ofList
  by_cases hi : i < bytes.length
  · simp only [hi, if_true, h bytes [] 0 i Memory.wf_nil]
    simp [hi]
  · simp [hi]

end Sys2Proof
end

