-- ==== Sys2Proof/Laws/State.lean ====
section
/-! SUPPORT. What each update of the state leaves of every field, so that no later proof unfolds a record update. -/

namespace Sys2Proof.Machine

variable (s : State)


/-! ### `x[r] <- v` (10_state.md R30) -/

@[simp] theorem State.setReg_params (r : Reg8) (v : Byte) : (s.setReg r v).params = s.params := by cases r <;> rfl
@[simp] theorem State.setReg_ime (r : Reg8) (v : Byte) : (s.setReg r v).ime = s.ime := by cases r <;> rfl
@[simp] theorem State.setReg_imePending (r : Reg8) (v : Byte) : (s.setReg r v).imePending = s.imePending := by cases r <;> rfl
@[simp] theorem State.setReg_haltBugArmed (r : Reg8) (v : Byte) : (s.setReg r v).haltBugArmed = s.haltBugArmed := by cases r <;> rfl
@[simp] theorem State.setReg_opcodeAddr (r : Reg8) (v : Byte) : (s.setReg r v).opcodeAddr = s.opcodeAddr := by cases r <;> rfl
@[simp] theorem State.setReg_runState (r : Reg8) (v : Byte) : (s.setReg r v).runState = s.runState := by cases r <;> rfl
@[simp] theorem State.setReg_bus (r : Reg8) (v : Byte) : (s.setReg r v).bus = s.bus := by cases r <;> rfl
@[simp] theorem State.setReg_video (r : Reg8) (v : Byte) : (s.setReg r v).video = s.video := by cases r <;> rfl
@[simp] theorem State.setReg_cart (r : Reg8) (v : Byte) : (s.setReg r v).cart = s.cart := by cases r <;> rfl
@[simp] theorem State.setReg_wallClock (r : Reg8) (v : Byte) : (s.setReg r v).wallClock = s.wallClock := by cases r <;> rfl
@[simp] theorem State.setReg_cycles (r : Reg8) (v : Byte) : (s.setReg r v).cycles = s.cycles := by cases r <;> rfl
@[simp] theorem State.setReg_regs_f (r : Reg8) (v : Byte) : (s.setReg r v).regs.f = s.regs.f := by cases r <;> rfl
@[simp] theorem State.setReg_regs_sp (r : Reg8) (v : Byte) : (s.setReg r v).regs.sp = s.regs.sp := by cases r <;> rfl
@[simp] theorem State.setReg_regs_pc (r : Reg8) (v : Byte) : (s.setReg r v).regs.pc = s.regs.pc := by cases r <;> rfl
@[simp] theorem State.setReg_flags (r : Reg8) (v : Byte) : (s.setReg r v).flags = s.flags := by cases r <;> rfl
theorem State.getReg_setReg (r q : Reg8) (v : Byte) : (s.setReg r v).getReg q = if q = r then v else s.getReg q := by
  cases r <;> cases q <;> rfl
@[simp] theorem State.getReg_setReg_same (r : Reg8) (v : Byte) : (s.setReg r v).getReg r = v := by cases r <;> rfl
@[simp] theorem State.setReg_getReg (r : Reg8) : s.setReg r (s.getReg r) = s := by cases r <;> rfl

/-! ### Writing the flags (10_state.md R31) -/

@[simp] theorem State.setFlags_params (x : Flags) : (s.setFlags x).params = s.params := rfl
@[simp] theorem State.setFlags_ime (x : Flags) : (s.setFlags x).ime = s.ime := rfl
@[simp] theorem State.setFlags_imePending (x : Flags) : (s.setFlags x).imePending = s.imePending := rfl
@[simp] theorem State.setFlags_haltBugArmed (x : Flags) : (s.setFlags x).haltBugArmed = s.haltBugArmed := rfl
@[simp] theorem State.setFlags_opcodeAddr (x : Flags) : (s.setFlags x).opcodeAddr = s.opcodeAddr := rfl
@[simp] theorem State.setFlags_runState (x : Flags) : (s.setFlags x).runState = s.runState := rfl
@[simp] theorem State.setFlags_bus (x : Flags) : (s.setFlags x).bus = s.bus := rfl
@[simp] theorem State.setFlags_video (x : Flags) : (s.setFlags x).video = s.video := rfl
@[simp] theorem State.setFlags_cart (x : Flags) : (s.setFlags x).cart = s.cart := rfl
@[simp] theorem State.setFlags_wallClock (x : Flags) : (s.setFlags x).wallClock = s.wallClock := rfl
@[simp] theorem State.setFlags_cycles (x : Flags) : (s.setFlags x).cycles = s.cycles := rfl
@[simp] theorem State.setFlags_regs_a (x : Flags) : (s.setFlags x).regs.a = s.regs.a := rfl
@[simp] theorem State.setFlags_regs_b (x : Flags) : (s.setFlags x).regs.b = s.regs.b := rfl
@[simp] theorem State.setFlags_regs_c (x : Flags) : (s.setFlags x).regs.c = s.regs.c := rfl
@[simp] theorem State.setFlags_regs_d (x : Flags) : (s.setFlags x).regs.d = s.regs.d := rfl
@[simp] theorem State.setFlags_regs_e (x : Flags) : (s.setFlags x).regs.e = s.regs.e := rfl
@[simp] theorem State.setFlags_regs_h (x : Flags) : (s.setFlags x).regs.h = s.regs.h := rfl
@[simp] theorem State.setFlags_regs_l (x : Flags) : (s.setFlags x).regs.l = s.regs.l := rfl
@[simp] theorem State.setFlags_regs_sp (x : Flags) : (s.setFlags x).regs.sp = s.regs.sp := rfl
@[simp] theorem State.setFlags_regs_pc (x : Flags) : (s.setFlags x).regs.pc = s.regs.pc := rfl
@[simp] theorem State.setFlags_regs_f (x : Flags) : (s.setFlags x).regs.f = flagsToByte x := rfl
@[simp] theorem State.setFlags_getReg (x : Flags) (r : Reg8) : (s.setFlags x).getReg r = s.getReg r := by cases r <;> rfl
@[simp] theorem State.setFlags_hl (x : Flags) : (s.setFlags x).hl = s.hl := rfl
@[simp] theorem flagsOfByte_flagsToByte (x : Flags) : flagsOfByte (flagsToByte x) = x := by
  obtain ⟨z, n, h, c⟩ := x
  revert z n h c
  decide
@[simp] theorem flagsToByte_low (x : Flags) : flagsToByte x &&& 0x0F = 0 := by
  obtain ⟨z, n, h, c⟩ := x
  revert z n h c
  decide
@[simp] theorem State.setFlags_flags (x : Flags) : (s.setFlags x).flags = x := flagsOfByte_flagsToByte x

/-! ### `pc <- v` (10_state.md R34) -/

@[simp] theorem State.setPc_params (v : Word) : (s.setPc v).params = s.params := rfl
@[simp] theorem State.setPc_ime (v : Word) : (s.setPc v).ime = s.ime := rfl
@[simp] theorem State.setPc_imePending (v : Word) : (s.setPc v).imePending = s.imePending := rfl
@[simp] theorem State.setPc_haltBugArmed (v : Word) : (s.setPc v).haltBugArmed = s.haltBugArmed := rfl
@[simp] theorem State.setPc_opcodeAddr (v : Word) : (s.setPc v).opcodeAddr = s.opcodeAddr := rfl
@[simp] theorem State.setPc_runState (v : Word) : (s.setPc v).runState = s.runState := rfl
@[simp] theorem State.setPc_bus (v : Word) : (s.setPc v).bus = s.bus := rfl
@[simp] theorem State.setPc_video (v : Word) : (s.setPc v).video = s.video := rfl
@[simp] theorem State.setPc_cart (v : Word) : (s.setPc v).cart = s.cart := rfl
@[simp] theorem State.setPc_wallClock (v : Word) : (s.setPc v).wallClock = s.wallClock := rfl
@[simp] theorem State.setPc_cycles (v : Word) : (s.setPc v).cycles = s.cycles := rfl
@[simp] theorem State.setPc_regs_a (v : Word) : (s.setPc v).regs.a = s.regs.a := rfl
@[simp] theorem State.setPc_regs_f (v : Word) : (s.setPc v).regs.f = s.regs.f := rfl
@[simp] theorem State.setPc_regs_b (v : Word) : (s.setPc v).regs.b = s.regs.b := rfl
@[simp] theorem State.setPc_regs_c (v : Word) : (s.setPc v).regs.c = s.regs.c := rfl
@[simp] theorem State.setPc_regs_d (v : Word) : (s.setPc v).regs.d = s.regs.d := rfl
@[simp] theorem State.setPc_regs_e (v : Word) : (s.setPc v).regs.e = s.regs.e := rfl
@[simp] theorem State.setPc_regs_h (v : Word) : (s.setPc v).regs.h = s.regs.h := rfl
@[simp] theorem State.setPc_regs_l (v : Word) : (s.setPc v).regs.l = s.regs.l := rfl
@[simp] theorem State.setPc_regs_sp (v : Word) : (s.setPc v).regs.sp = s.regs.sp := rfl
@[simp] theorem State.setPc_regs_pc (v : Word) : (s.setPc v).regs.pc = v := rfl
@[simp] theorem State.setPc_getReg (v : Word) (r : Reg8) : (s.setPc v).getReg r = s.getReg r := by cases r <;> rfl
@[simp] theorem State.setPc_flags (v : Word) : (s.setPc v).flags = s.flags := rfl
@[simp] theorem State.setPc_hl (v : Word) : (s.setPc v).hl = s.hl := rfl

/-! ### `x[SP] <- v` (10_state.md R33) -/

@[simp] theorem State.setSp_params (v : Word) : (s.setSp v).params = s.params := rfl
@[simp] theorem State.setSp_ime (v : Word) : (s.setSp v).ime = s.ime := rfl
@[simp] theorem State.setSp_imePending (v : Word) : (s.setSp v).imePending = s.imePending := rfl
@[simp] theorem State.setSp_haltBugArmed (v : Word) : (s.setSp v).haltBugArmed = s.haltBugArmed := rfl
@[simp] theorem State.setSp_opcodeAddr (v : Word) : (s.setSp v).opcodeAddr = s.opcodeAddr := rfl
@[simp] theorem State.setSp_runState (v : Word) : (s.setSp v).runState = s.runState := rfl
@[simp] theorem State.setSp_bus (v : Word) : (s.setSp v).bus = s.bus := rfl
@[simp] theorem State.setSp_video (v : Word) : (s.setSp v).video = s.video := rfl
@[simp] theorem State.setSp_cart (v : Word) : (s.setSp v).cart = s.cart := rfl
@[simp] theorem State.setSp_wallClock (v : Word) : (s.setSp v).wallClock = s.wallClock := rfl
@[simp] theorem State.setSp_cycles (v : Word) : (s.setSp v).cycles = s.cycles := rfl
@[simp] theorem State.setSp_regs_a (v : Word) : (s.setSp v).regs.a = s.regs.a := rfl
@[simp] theorem State.setSp_regs_f (v : Word) : (s.setSp v).regs.f = s.regs.f := rfl
@[simp] theorem State.setSp_regs_b (v : Word) : (s.setSp v).regs.b = s.regs.b := rfl
@[simp] theorem State.setSp_regs_c (v : Word) : (s.setSp v).regs.c = s.regs.c := rfl
@[simp] theorem State.setSp_regs_d (v : Word) : (s.setSp v).regs.d = s.regs.d := rfl
@[simp] theorem State.setSp_regs_e (v : Word) : (s.setSp v).regs.e = s.regs.e := rfl
@[simp] theorem State.setSp_regs_h (v : Word) : (s.setSp v).regs.h = s.regs.h := rfl
@[simp] theorem State.setSp_regs_l (v : Word) : (s.setSp v).regs.l = s.regs.l := rfl
@[simp] theorem State.setSp_regs_pc (v : Word) : (s.setSp v).regs.pc = s.regs.pc := rfl
@[simp] theorem State.setSp_regs_sp (v : Word) : (s.setSp v).regs.sp = v := rfl
@[simp] theorem State.setSp_getReg (v : Word) (r : Reg8) : (s.setSp v).getReg r = s.getReg r := by cases r <;> rfl
@[simp] theorem State.setSp_flags (v : Word) : (s.setSp v).flags = s.flags := rfl
@[simp] theorem State.setSp_hl (v : Word) : (s.setSp v).hl = s.hl := rfl

/-! ### `x[HL] <- v` (10_state.md R32) -/

@[simp] theorem State.setHl_params (v : Word) : (s.setHl v).params = s.params := rfl
@[simp] theorem State.setHl_ime (v : Word) : (s.setHl v).ime = s.ime := rfl
@[simp] theorem State.setHl_imePending (v : Word) : (s.setHl v).imePending = s.imePending := rfl
@[simp] theorem State.setHl_haltBugArmed (v : Word) : (s.setHl v).haltBugArmed = s.haltBugArmed := rfl
@[simp] theorem State.setHl_opcodeAddr (v : Word) : (s.setHl v).opcodeAddr = s.opcodeAddr := rfl
@[simp] theorem State.setHl_runState (v : Word) : (s.setHl v).runState = s.runState := rfl
@[simp] theorem State.setHl_bus (v : Word) : (s.setHl v).bus = s.bus := rfl
@[simp] theorem State.setHl_video (v : Word) : (s.setHl v).video = s.video := rfl
@[simp] theorem State.setHl_cart (v : Word) : (s.setHl v).cart = s.cart := rfl
@[simp] theorem State.setHl_wallClock (v : Word) : (s.setHl v).wallClock = s.wallClock := rfl
@[simp] theorem State.setHl_cycles (v : Word) : (s.setHl v).cycles = s.cycles := rfl
@[simp] theorem State.setHl_regs_a (v : Word) : (s.setHl v).regs.a = s.regs.a := rfl
@[simp] theorem State.setHl_regs_f (v : Word) : (s.setHl v).regs.f = s.regs.f := rfl
@[simp] theorem State.setHl_regs_b (v : Word) : (s.setHl v).regs.b = s.regs.b := rfl
@[simp] theorem State.setHl_regs_c (v : Word) : (s.setHl v).regs.c = s.regs.c := rfl
@[simp] theorem State.setHl_regs_d (v : Word) : (s.setHl v).regs.d = s.regs.d := rfl
@[simp] theorem State.setHl_regs_e (v : Word) : (s.setHl v).regs.e = s.regs.e := rfl
@[simp] theorem State.setHl_regs_sp (v : Word) : (s.setHl v).regs.sp = s.regs.sp := rfl
@[simp] theorem State.setHl_regs_pc (v : Word) : (s.setHl v).regs.pc = s.regs.pc := rfl
@[simp] theorem joinBytes_hi_lo (v : Word) : joinBytes (hiByte v) (loByte v) = v := by
  apply BitVec.eq_of_getLsbD_eq
  intro i hi
  simp only [joinBytes, hiByte, loByte, BitVec.getLsbD_append, BitVec.getLsbD_extractLsb']
  by_cases h : i < 8
  · simp [h]
  · have h1 : i - 8 < 8 := by omega
    have h2 : 8 + (i - 8) = i := by omega
    simp [h, h1, h2]
@[simp] theorem hiByte_joinBytes (x y : Byte) : hiByte (joinBytes x y) = x := by
  apply BitVec.eq_of_getLsbD_eq
  intro i hi
  simp only [joinBytes, hiByte, BitVec.getLsbD_extractLsb', hi, decide_true, Bool.true_and]
  rw [BitVec.getLsbD_append, if_neg (by omega)]
  congr 1
  omega
@[simp] theorem loByte_joinBytes (x y : Byte) : loByte (joinBytes x y) = y := by
  apply BitVec.eq_of_getLsbD_eq
  intro i hi
  simp only [joinBytes, loByte, BitVec.getLsbD_extractLsb', hi, decide_true, Bool.true_and, Nat.zero_add]
  rw [BitVec.getLsbD_append, if_pos hi]
@[simp] theorem State.setHl_hl (v : Word) : (s.setHl v).hl = v := joinBytes_hi_lo v
@[simp] theorem State.setHl_flags (v : Word) : (s.setHl v).flags = s.flags := rfl

/-! ### `x[rr] <- v` (10_state.md R32, 30_encoding.md R183) -/

@[simp] theorem State.setPair_params (r : Pair) (v : Word) : (s.setPair r v).params = s.params := by cases r <;> rfl
@[simp] theorem State.setPair_ime (r : Pair) (v : Word) : (s.setPair r v).ime = s.ime := by cases r <;> rfl
@[simp] theorem State.setPair_imePending (r : Pair) (v : Word) : (s.setPair r v).imePending = s.imePending := by cases r <;> rfl
@[simp] theorem State.setPair_haltBugArmed (r : Pair) (v : Word) : (s.setPair r v).haltBugArmed = s.haltBugArmed := by cases r <;> rfl
@[simp] theorem State.setPair_opcodeAddr (r : Pair) (v : Word) : (s.setPair r v).opcodeAddr = s.opcodeAddr := by cases r <;> rfl
@[simp] theorem State.setPair_runState (r : Pair) (v : Word) : (s.setPair r v).runState = s.runState := by cases r <;> rfl
@[simp] theorem State.setPair_bus (r : Pair) (v : Word) : (s.setPair r v).bus = s.bus := by cases r <;> rfl
@[simp] theorem State.setPair_video (r : Pair) (v : Word) : (s.setPair r v).video = s.video := by cases r <;> rfl
@[simp] theorem State.setPair_cart (r : Pair) (v : Word) : (s.setPair r v).cart = s.cart := by cases r <;> rfl
@[simp] theorem State.setPair_wallClock (r : Pair) (v : Word) : (s.setPair r v).wallClock = s.wallClock := by cases r <;> rfl
@[simp] theorem State.setPair_cycles (r : Pair) (v : Word) : (s.setPair r v).cycles = s.cycles := by cases r <;> rfl
@[simp] theorem State.setPair_regs_a (r : Pair) (v : Word) : (s.setPair r v).regs.a = s.regs.a := by cases r <;> rfl
@[simp] theorem State.setPair_regs_f (r : Pair) (v : Word) : (s.setPair r v).regs.f = s.regs.f := by cases r <;> rfl
@[simp] theorem State.setPair_regs_pc (r : Pair) (v : Word) : (s.setPair r v).regs.pc = s.regs.pc := by cases r <;> rfl
@[simp] theorem State.getPair_setPair_same (r : Pair) (v : Word) : (s.setPair r v).getPair r = v := by
  cases r <;> first | exact joinBytes_hi_lo v | rfl
theorem State.getPair_setPair (r q : Pair) (v : Word) : (s.setPair r v).getPair q = if q = r then v else s.getPair q := by
  cases r <;> cases q <;> first | exact joinBytes_hi_lo v | rfl

/-! ### `x[rr] <- v` of a stack pair (30_encoding.md R184) -/

@[simp] theorem State.setStackPair_params (r : StackPair) (v : Word) : (s.setStackPair r v).params = s.params := by cases r <;> rfl
@[simp] theorem State.setStackPair_ime (r : StackPair) (v : Word) : (s.setStackPair r v).ime = s.ime := by cases r <;> rfl
@[simp] theorem State.setStackPair_imePending (r : StackPair) (v : Word) : (s.setStackPair r v).imePending = s.imePending := by cases r <;> rfl
@[simp] theorem State.setStackPair_haltBugArmed (r : StackPair) (v : Word) : (s.setStackPair r v).haltBugArmed = s.haltBugArmed := by cases r <;> rfl
@[simp] theorem State.setStackPair_opcodeAddr (r : StackPair) (v : Word) : (s.setStackPair r v).opcodeAddr = s.opcodeAddr := by cases r <;> rfl
@[simp] theorem State.setStackPair_runState (r : StackPair) (v : Word) : (s.setStackPair r v).runState = s.runState := by cases r <;> rfl
@[simp] theorem State.setStackPair_bus (r : StackPair) (v : Word) : (s.setStackPair r v).bus = s.bus := by cases r <;> rfl
@[simp] theorem State.setStackPair_video (r : StackPair) (v : Word) : (s.setStackPair r v).video = s.video := by cases r <;> rfl
@[simp] theorem State.setStackPair_cart (r : StackPair) (v : Word) : (s.setStackPair r v).cart = s.cart := by cases r <;> rfl
@[simp] theorem State.setStackPair_wallClock (r : StackPair) (v : Word) : (s.setStackPair r v).wallClock = s.wallClock := by cases r <;> rfl
@[simp] theorem State.setStackPair_cycles (r : StackPair) (v : Word) : (s.setStackPair r v).cycles = s.cycles := by cases r <;> rfl
@[simp] theorem State.setStackPair_regs_sp (r : StackPair) (v : Word) : (s.setStackPair r v).regs.sp = s.regs.sp := by cases r <;> rfl
@[simp] theorem State.setStackPair_regs_pc (r : StackPair) (v : Word) : (s.setStackPair r v).regs.pc = s.regs.pc := by cases r <;> rfl

/-! ### HL after an access through (HL+) or (HL-) (30_encoding.md R185) -/

@[simp] theorem State.stepMemPair_params (p : MemPair) : (s.stepMemPair p).params = s.params := by cases p <;> rfl
@[simp] theorem State.stepMemPair_ime (p : MemPair) : (s.stepMemPair p).ime = s.ime := by cases p <;> rfl
@[simp] theorem State.stepMemPair_imePending (p : MemPair) : (s.stepMemPair p).imePending = s.imePending := by cases p <;> rfl
@[simp] theorem State.stepMemPair_haltBugArmed (p : MemPair) : (s.stepMemPair p).haltBugArmed = s.haltBugArmed := by cases p <;> rfl
@[simp] theorem State.stepMemPair_opcodeAddr (p : MemPair) : (s.stepMemPair p).opcodeAddr = s.opcodeAddr := by cases p <;> rfl
@[simp] theorem State.stepMemPair_runState (p : MemPair) : (s.stepMemPair p).runState = s.runState := by cases p <;> rfl
@[simp] theorem State.stepMemPair_bus (p : MemPair) : (s.stepMemPair p).bus = s.bus := by cases p <;> rfl
@[simp] theorem State.stepMemPair_video (p : MemPair) : (s.stepMemPair p).video = s.video := by cases p <;> rfl
@[simp] theorem State.stepMemPair_cart (p : MemPair) : (s.stepMemPair p).cart = s.cart := by cases p <;> rfl
@[simp] theorem State.stepMemPair_wallClock (p : MemPair) : (s.stepMemPair p).wallClock = s.wallClock := by cases p <;> rfl
@[simp] theorem State.stepMemPair_cycles (p : MemPair) : (s.stepMemPair p).cycles = s.cycles := by cases p <;> rfl
@[simp] theorem State.stepMemPair_regs_a (p : MemPair) : (s.stepMemPair p).regs.a = s.regs.a := by cases p <;> rfl
@[simp] theorem State.stepMemPair_regs_f (p : MemPair) : (s.stepMemPair p).regs.f = s.regs.f := by cases p <;> rfl
@[simp] theorem State.stepMemPair_regs_b (p : MemPair) : (s.stepMemPair p).regs.b = s.regs.b := by cases p <;> rfl
@[simp] theorem State.stepMemPair_regs_c (p : MemPair) : (s.stepMemPair p).regs.c = s.regs.c := by cases p <;> rfl
@[simp] theorem State.stepMemPair_regs_d (p : MemPair) : (s.stepMemPair p).regs.d = s.regs.d := by cases p <;> rfl
@[simp] theorem State.stepMemPair_regs_e (p : MemPair) : (s.stepMemPair p).regs.e = s.regs.e := by cases p <;> rfl
@[simp] theorem State.stepMemPair_regs_sp (p : MemPair) : (s.stepMemPair p).regs.sp = s.regs.sp := by cases p <;> rfl
@[simp] theorem State.stepMemPair_regs_pc (p : MemPair) : (s.stepMemPair p).regs.pc = s.regs.pc := by cases p <;> rfl

/-! ### An ALU operation on A (42_alu8.md R280) -/

@[simp] theorem State.aluStep_params (op : AluOp) (v : Byte) : (s.aluStep op v).params = s.params := rfl
@[simp] theorem State.aluStep_ime (op : AluOp) (v : Byte) : (s.aluStep op v).ime = s.ime := rfl
@[simp] theorem State.aluStep_imePending (op : AluOp) (v : Byte) : (s.aluStep op v).imePending = s.imePending := rfl
@[simp] theorem State.aluStep_haltBugArmed (op : AluOp) (v : Byte) : (s.aluStep op v).haltBugArmed = s.haltBugArmed := rfl
@[simp] theorem State.aluStep_opcodeAddr (op : AluOp) (v : Byte) : (s.aluStep op v).opcodeAddr = s.opcodeAddr := rfl
@[simp] theorem State.aluStep_runState (op : AluOp) (v : Byte) : (s.aluStep op v).runState = s.runState := rfl
@[simp] theorem State.aluStep_bus (op : AluOp) (v : Byte) : (s.aluStep op v).bus = s.bus := rfl
@[simp] theorem State.aluStep_video (op : AluOp) (v : Byte) : (s.aluStep op v).video = s.video := rfl
@[simp] theorem State.aluStep_cart (op : AluOp) (v : Byte) : (s.aluStep op v).cart = s.cart := rfl
@[simp] theorem State.aluStep_wallClock (op : AluOp) (v : Byte) : (s.aluStep op v).wallClock = s.wallClock := rfl
@[simp] theorem State.aluStep_cycles (op : AluOp) (v : Byte) : (s.aluStep op v).cycles = s.cycles := rfl
@[simp] theorem State.aluStep_regs_b (op : AluOp) (v : Byte) : (s.aluStep op v).regs.b = s.regs.b := rfl
@[simp] theorem State.aluStep_regs_c (op : AluOp) (v : Byte) : (s.aluStep op v).regs.c = s.regs.c := rfl
@[simp] theorem State.aluStep_regs_d (op : AluOp) (v : Byte) : (s.aluStep op v).regs.d = s.regs.d := rfl
@[simp] theorem State.aluStep_regs_e (op : AluOp) (v : Byte) : (s.aluStep op v).regs.e = s.regs.e := rfl
@[simp] theorem State.aluStep_regs_h (op : AluOp) (v : Byte) : (s.aluStep op v).regs.h = s.regs.h := rfl
@[simp] theorem State.aluStep_regs_l (op : AluOp) (v : Byte) : (s.aluStep op v).regs.l = s.regs.l := rfl
@[simp] theorem State.aluStep_regs_sp (op : AluOp) (v : Byte) : (s.aluStep op v).regs.sp = s.regs.sp := rfl
@[simp] theorem State.aluStep_regs_pc (op : AluOp) (v : Byte) : (s.aluStep op v).regs.pc = s.regs.pc := rfl

/-! ### `raise E` (60_exceptions.md R431) -/

@[simp] theorem State.raise_params (e : Fault) : (s.raise e).params = s.params := rfl
@[simp] theorem State.raise_regs (e : Fault) : (s.raise e).regs = s.regs := rfl
@[simp] theorem State.raise_ime (e : Fault) : (s.raise e).ime = s.ime := rfl
@[simp] theorem State.raise_imePending (e : Fault) : (s.raise e).imePending = s.imePending := rfl
@[simp] theorem State.raise_haltBugArmed (e : Fault) : (s.raise e).haltBugArmed = s.haltBugArmed := rfl
@[simp] theorem State.raise_opcodeAddr (e : Fault) : (s.raise e).opcodeAddr = s.opcodeAddr := rfl
@[simp] theorem State.raise_bus (e : Fault) : (s.raise e).bus = s.bus := rfl
@[simp] theorem State.raise_video (e : Fault) : (s.raise e).video = s.video := rfl
@[simp] theorem State.raise_cart (e : Fault) : (s.raise e).cart = s.cart := rfl
@[simp] theorem State.raise_wallClock (e : Fault) : (s.raise e).wallClock = s.wallClock := rfl
@[simp] theorem State.raise_cycles (e : Fault) : (s.raise e).cycles = s.cycles := rfl
@[simp] theorem State.raise_runState (e : Fault) : (s.raise e).runState = .faulted e := rfl

/-! ### `request_interrupt(k)` (60_exceptions.md R433) -/

@[simp] theorem State.requestInterrupt_params (k : Irq) : (s.requestInterrupt k).params = s.params := rfl
@[simp] theorem State.requestInterrupt_regs (k : Irq) : (s.requestInterrupt k).regs = s.regs := rfl
@[simp] theorem State.requestInterrupt_ime (k : Irq) : (s.requestInterrupt k).ime = s.ime := rfl
@[simp] theorem State.requestInterrupt_imePending (k : Irq) : (s.requestInterrupt k).imePending = s.imePending := rfl
@[simp] theorem State.requestInterrupt_haltBugArmed (k : Irq) : (s.requestInterrupt k).haltBugArmed = s.haltBugArmed := rfl
@[simp] theorem State.requestInterrupt_opcodeAddr (k : Irq) : (s.requestInterrupt k).opcodeAddr = s.opcodeAddr := rfl
@[simp] theorem State.requestInterrupt_runState (k : Irq) : (s.requestInterrupt k).runState = s.runState := rfl
@[simp] theorem State.requestInterrupt_video (k : Irq) : (s.requestInterrupt k).video = s.video := rfl
@[simp] theorem State.requestInterrupt_cart (k : Irq) : (s.requestInterrupt k).cart = s.cart := rfl
@[simp] theorem State.requestInterrupt_wallClock (k : Irq) : (s.requestInterrupt k).wallClock = s.wallClock := rfl
@[simp] theorem State.requestInterrupt_cycles (k : Irq) : (s.requestInterrupt k).cycles = s.cycles := rfl
@[simp] theorem State.requestInterrupt_bus_flat (k : Irq) : (s.requestInterrupt k).bus.flat = s.bus.flat := rfl
@[simp] theorem State.requestInterrupt_bus_bootActive (k : Irq) : (s.requestInterrupt k).bus.bootActive = s.bus.bootActive := rfl
@[simp] theorem State.requestInterrupt_bus_ieReg (k : Irq) : (s.requestInterrupt k).bus.ieReg = s.bus.ieReg := rfl
@[simp] theorem State.requestInterrupt_bus_timer (k : Irq) : (s.requestInterrupt k).bus.timer = s.bus.timer := rfl
@[simp] theorem State.requestInterrupt_bus_joypad (k : Irq) : (s.requestInterrupt k).bus.joypad = s.bus.joypad := rfl
@[simp] theorem State.requestInterrupt_bus_dmaReg (k : Irq) : (s.requestInterrupt k).bus.dmaReg = s.bus.dmaReg := rfl
@[simp] theorem State.requestInterrupt_bus_sb (k : Irq) : (s.requestInterrupt k).bus.sb = s.bus.sb := rfl
@[simp] theorem State.requestInterrupt_bus_sc (k : Irq) : (s.requestInterrupt k).bus.sc = s.bus.sc := rfl
@[simp] theorem State.requestInterrupt_bus_audio (k : Irq) : (s.requestInterrupt k).bus.audio = s.bus.audio := rfl

/-! ### Replacing the video engine -/

@[simp] theorem State.withVideo_params (v : Video) : (s.withVideo v).params = s.params := rfl
@[simp] theorem State.withVideo_regs (v : Video) : (s.withVideo v).regs = s.regs := rfl
@[simp] theorem State.withVideo_ime (v : Video) : (s.withVideo v).ime = s.ime := rfl
@[simp] theorem State.withVideo_imePending (v : Video) : (s.withVideo v).imePending = s.imePending := rfl
@[simp] theorem State.withVideo_haltBugArmed (v : Video) : (s.withVideo v).haltBugArmed = s.haltBugArmed := rfl
@[simp] theorem State.withVideo_opcodeAddr (v : Video) : (s.withVideo v).opcodeAddr = s.opcodeAddr := rfl
@[simp] theorem State.withVideo_runState (v : Video) : (s.withVideo v).runState = s.runState := rfl
@[simp] theorem State.withVideo_bus (v : Video) : (s.withVideo v).bus = s.bus := rfl
@[simp] theorem State.withVideo_cart (v : Video) : (s.withVideo v).cart = s.cart := rfl
@[simp] theorem State.withVideo_wallClock (v : Video) : (s.withVideo v).wallClock = s.wallClock := rfl
@[simp] theorem State.withVideo_cycles (v : Video) : (s.withVideo v).cycles = s.cycles := rfl
@[simp] theorem State.withVideo_video (v : Video) : (s.withVideo v).video = v := rfl

/-! ### A STAT interrupt source (61_video.md R520) -/

@[simp] theorem State.requestStatIf_params (b : Bool) : (s.requestStatIf b).params = s.params := by cases b <;> rfl
@[simp] theorem State.requestStatIf_regs (b : Bool) : (s.requestStatIf b).regs = s.regs := by cases b <;> rfl
@[simp] theorem State.requestStatIf_ime (b : Bool) : (s.requestStatIf b).ime = s.ime := by cases b <;> rfl
@[simp] theorem State.requestStatIf_imePending (b : Bool) : (s.requestStatIf b).imePending = s.imePending := by cases b <;> rfl
@[simp] theorem State.requestStatIf_haltBugArmed (b : Bool) : (s.requestStatIf b).haltBugArmed = s.haltBugArmed := by cases b <;> rfl
@[simp] theorem State.requestStatIf_opcodeAddr (b : Bool) : (s.requestStatIf b).opcodeAddr = s.opcodeAddr := by cases b <;> rfl
@[simp] theorem State.requestStatIf_runState (b : Bool) : (s.requestStatIf b).runState = s.runState := by cases b <;> rfl
@[simp] theorem State.requestStatIf_video (b : Bool) : (s.requestStatIf b).video = s.video := by cases b <;> rfl
@[simp] theorem State.requestStatIf_cart (b : Bool) : (s.requestStatIf b).cart = s.cart := by cases b <;> rfl
@[simp] theorem State.requestStatIf_wallClock (b : Bool) : (s.requestStatIf b).wallClock = s.wallClock := by cases b <;> rfl
@[simp] theorem State.requestStatIf_cycles (b : Bool) : (s.requestStatIf b).cycles = s.cycles := by cases b <;> rfl
@[simp] theorem State.requestStatIf_bus_flat (b : Bool) : (s.requestStatIf b).bus.flat = s.bus.flat := by cases b <;> rfl
@[simp] theorem State.requestStatIf_bus_bootActive (b : Bool) : (s.requestStatIf b).bus.bootActive = s.bus.bootActive := by cases b <;> rfl
@[simp] theorem State.requestStatIf_bus_ieReg (b : Bool) : (s.requestStatIf b).bus.ieReg = s.bus.ieReg := by cases b <;> rfl
@[simp] theorem State.requestStatIf_bus_timer (b : Bool) : (s.requestStatIf b).bus.timer = s.bus.timer := by cases b <;> rfl
@[simp] theorem State.requestStatIf_bus_joypad (b : Bool) : (s.requestStatIf b).bus.joypad = s.bus.joypad := by cases b <;> rfl
@[simp] theorem State.requestStatIf_bus_dmaReg (b : Bool) : (s.requestStatIf b).bus.dmaReg = s.bus.dmaReg := by cases b <;> rfl
@[simp] theorem State.requestStatIf_bus_sb (b : Bool) : (s.requestStatIf b).bus.sb = s.bus.sb := by cases b <;> rfl
@[simp] theorem State.requestStatIf_bus_sc (b : Bool) : (s.requestStatIf b).bus.sc = s.bus.sc := by cases b <;> rfl
@[simp] theorem State.requestStatIf_bus_audio (b : Bool) : (s.requestStatIf b).bus.audio = s.bus.audio := by cases b <;> rfl

/-! ### Wake (60_exceptions.md R436) -/

@[simp] theorem State.wake_params : (s.wake).params = s.params := by unfold State.wake; split <;> rfl
@[simp] theorem State.wake_regs : (s.wake).regs = s.regs := by unfold State.wake; split <;> rfl
@[simp] theorem State.wake_ime : (s.wake).ime = s.ime := by unfold State.wake; split <;> rfl
@[simp] theorem State.wake_imePending : (s.wake).imePending = s.imePending := by unfold State.wake; split <;> rfl
@[simp] theorem State.wake_haltBugArmed : (s.wake).haltBugArmed = s.haltBugArmed := by unfold State.wake; split <;> rfl
@[simp] theorem State.wake_opcodeAddr : (s.wake).opcodeAddr = s.opcodeAddr := by unfold State.wake; split <;> rfl
@[simp] theorem State.wake_bus : (s.wake).bus = s.bus := by unfold State.wake; split <;> rfl
@[simp] theorem State.wake_video : (s.wake).video = s.video := by unfold State.wake; split <;> rfl
@[simp] theorem State.wake_cart : (s.wake).cart = s.cart := by unfold State.wake; split <;> rfl
@[simp] theorem State.wake_wallClock : (s.wake).wallClock = s.wallClock := by unfold State.wake; split <;> rfl
@[simp] theorem State.wake_cycles : (s.wake).cycles = s.cycles := by unfold State.wake; split <;> rfl

/-! ### The boot overlay's retirement (20_memory.md R75) -/

@[simp] theorem State.retireBoot_params (a : Word) : (s.retireBoot a).params = s.params := by unfold State.retireBoot; split <;> rfl
@[simp] theorem State.retireBoot_regs (a : Word) : (s.retireBoot a).regs = s.regs := by unfold State.retireBoot; split <;> rfl
@[simp] theorem State.retireBoot_ime (a : Word) : (s.retireBoot a).ime = s.ime := by unfold State.retireBoot; split <;> rfl
@[simp] theorem State.retireBoot_imePending (a : Word) : (s.retireBoot a).imePending = s.imePending := by unfold State.retireBoot; split <;> rfl
@[simp] theorem State.retireBoot_haltBugArmed (a : Word) : (s.retireBoot a).haltBugArmed = s.haltBugArmed := by unfold State.retireBoot; split <;> rfl
@[simp] theorem State.retireBoot_opcodeAddr (a : Word) : (s.retireBoot a).opcodeAddr = s.opcodeAddr := by unfold State.retireBoot; split <;> rfl
@[simp] theorem State.retireBoot_runState (a : Word) : (s.retireBoot a).runState = s.runState := by unfold State.retireBoot; split <;> rfl
@[simp] theorem State.retireBoot_video (a : Word) : (s.retireBoot a).video = s.video := by unfold State.retireBoot; split <;> rfl
@[simp] theorem State.retireBoot_cart (a : Word) : (s.retireBoot a).cart = s.cart := by unfold State.retireBoot; split <;> rfl
@[simp] theorem State.retireBoot_wallClock (a : Word) : (s.retireBoot a).wallClock = s.wallClock := by unfold State.retireBoot; split <;> rfl
@[simp] theorem State.retireBoot_cycles (a : Word) : (s.retireBoot a).cycles = s.cycles := by unfold State.retireBoot; split <;> rfl
@[simp] theorem State.retireBoot_bus_flat (a : Word) : (s.retireBoot a).bus.flat = s.bus.flat := by
  unfold State.retireBoot; split <;> rfl
@[simp] theorem State.retireBoot_bus_ifReg (a : Word) : (s.retireBoot a).bus.ifReg = s.bus.ifReg := by
  unfold State.retireBoot; split <;> rfl
@[simp] theorem State.retireBoot_bus_ieReg (a : Word) : (s.retireBoot a).bus.ieReg = s.bus.ieReg := by
  unfold State.retireBoot; split <;> rfl
@[simp] theorem State.retireBoot_bus_timer (a : Word) : (s.retireBoot a).bus.timer = s.bus.timer := by
  unfold State.retireBoot; split <;> rfl
@[simp] theorem State.retireBoot_bus_joypad (a : Word) : (s.retireBoot a).bus.joypad = s.bus.joypad := by
  unfold State.retireBoot; split <;> rfl
@[simp] theorem State.retireBoot_bus_dmaReg (a : Word) : (s.retireBoot a).bus.dmaReg = s.bus.dmaReg := by
  unfold State.retireBoot; split <;> rfl
@[simp] theorem State.retireBoot_bus_sb (a : Word) : (s.retireBoot a).bus.sb = s.bus.sb := by
  unfold State.retireBoot; split <;> rfl
@[simp] theorem State.retireBoot_bus_sc (a : Word) : (s.retireBoot a).bus.sc = s.bus.sc := by
  unfold State.retireBoot; split <;> rfl
@[simp] theorem State.retireBoot_bus_audio (a : Word) : (s.retireBoot a).bus.audio = s.bus.audio := by
  unfold State.retireBoot; split <;> rfl

/-! ### A byte of OAM (61_video.md R502) -/

@[simp] theorem State.writeOam_params (i : Nat) (v : Byte) : (s.writeOam i v).params = s.params := rfl
@[simp] theorem State.writeOam_regs (i : Nat) (v : Byte) : (s.writeOam i v).regs = s.regs := rfl
@[simp] theorem State.writeOam_ime (i : Nat) (v : Byte) : (s.writeOam i v).ime = s.ime := rfl
@[simp] theorem State.writeOam_imePending (i : Nat) (v : Byte) : (s.writeOam i v).imePending = s.imePending := rfl
@[simp] theorem State.writeOam_haltBugArmed (i : Nat) (v : Byte) : (s.writeOam i v).haltBugArmed = s.haltBugArmed := rfl
@[simp] theorem State.writeOam_opcodeAddr (i : Nat) (v : Byte) : (s.writeOam i v).opcodeAddr = s.opcodeAddr := rfl
@[simp] theorem State.writeOam_runState (i : Nat) (v : Byte) : (s.writeOam i v).runState = s.runState := rfl
@[simp] theorem State.writeOam_bus (i : Nat) (v : Byte) : (s.writeOam i v).bus = s.bus := rfl
@[simp] theorem State.writeOam_cart (i : Nat) (v : Byte) : (s.writeOam i v).cart = s.cart := rfl
@[simp] theorem State.writeOam_wallClock (i : Nat) (v : Byte) : (s.writeOam i v).wallClock = s.wallClock := rfl
@[simp] theorem State.writeOam_cycles (i : Nat) (v : Byte) : (s.writeOam i v).cycles = s.cycles := rfl

end Sys2Proof.Machine
end

