-- ==== Sys2Proof/Laws/Bus.lean ====
section
/-! SUPPORT. What a bus read and a bus write can do (20_memory.md R72, R73, R82, R88): one lemma for each thing callers need. -/

namespace Sys2Proof.Machine

variable {s t : State} {a b : Word} {v : Byte} {e : Fault}

/-! ### Reads -/

section
variable (s a)

theorem State.afterRead_eq : s.afterRead a =
    { s with
      bus := { s.bus with bootActive := s.bus.bootActive && decide (a ≠ 0x0100) }
      cart :=
        if overlaid s a = false ∧ route s.params a = .cart then s.cart.map (fun c => c.afterRead s.wallClock a) else s.cart } := by
  unfold State.afterRead State.retireBoot
  by_cases h : a = 0x0100
  · subst h
    simp [overlaid, route]
  · simp only [h, if_false, ne_eq, not_false_eq_true, decide_true, Bool.and_true]
    cases ho : overlaid s a
    · cases hr : route s.params a <;> simp
    · simp

@[simp] theorem State.afterRead_params : (s.afterRead a).params = s.params := by rw [State.afterRead_eq]
@[simp] theorem State.afterRead_regs : (s.afterRead a).regs = s.regs := by rw [State.afterRead_eq]
@[simp] theorem State.afterRead_ime : (s.afterRead a).ime = s.ime := by rw [State.afterRead_eq]
@[simp] theorem State.afterRead_imePending : (s.afterRead a).imePending = s.imePending := by rw [State.afterRead_eq]
@[simp] theorem State.afterRead_haltBugArmed : (s.afterRead a).haltBugArmed = s.haltBugArmed := by rw [State.afterRead_eq]
@[simp] theorem State.afterRead_opcodeAddr : (s.afterRead a).opcodeAddr = s.opcodeAddr := by rw [State.afterRead_eq]
@[simp] theorem State.afterRead_runState : (s.afterRead a).runState = s.runState := by rw [State.afterRead_eq]
@[simp] theorem State.afterRead_video : (s.afterRead a).video = s.video := by rw [State.afterRead_eq]
@[simp] theorem State.afterRead_wallClock : (s.afterRead a).wallClock = s.wallClock := by rw [State.afterRead_eq]
@[simp] theorem State.afterRead_cycles : (s.afterRead a).cycles = s.cycles := by rw [State.afterRead_eq]
@[simp] theorem State.afterRead_bootActive :
    (s.afterRead a).bus.bootActive = (s.bus.bootActive && decide (a ≠ 0x0100)) := by rw [State.afterRead_eq]
@[simp] theorem State.afterRead_flat : (s.afterRead a).bus.flat = s.bus.flat := by rw [State.afterRead_eq]
@[simp] theorem State.afterRead_ifReg : (s.afterRead a).bus.ifReg = s.bus.ifReg := by rw [State.afterRead_eq]
@[simp] theorem State.afterRead_ieReg : (s.afterRead a).bus.ieReg = s.bus.ieReg := by rw [State.afterRead_eq]
@[simp] theorem State.afterRead_timer : (s.afterRead a).bus.timer = s.bus.timer := by rw [State.afterRead_eq]
@[simp] theorem State.afterRead_joypad : (s.afterRead a).bus.joypad = s.bus.joypad := by rw [State.afterRead_eq]
@[simp] theorem State.afterRead_dmaReg : (s.afterRead a).bus.dmaReg = s.bus.dmaReg := by rw [State.afterRead_eq]
@[simp] theorem State.afterRead_sb : (s.afterRead a).bus.sb = s.bus.sb := by rw [State.afterRead_eq]
@[simp] theorem State.afterRead_sc : (s.afterRead a).bus.sc = s.bus.sc := by rw [State.afterRead_eq]
@[simp] theorem State.afterRead_audio : (s.afterRead a).bus.audio = s.bus.audio := by rw [State.afterRead_eq]

@[simp] theorem State.afterRead_cartLoaded : (s.afterRead a).cart.isSome = s.cart.isSome := by
  rw [State.afterRead_eq]
  by_cases h : overlaid s a = false ∧ route s.params a = .cart <;> simp [h]

/-- A read changes the value of no cartridge byte: an advance moves the live clock alone (21_cartridge.md R152). -/
@[simp] theorem Cartridge.read_afterRead (model : Mbc1Model) (c : Cartridge) (now : Nat) :
    (c.afterRead now a).read model b = c.read model b := by
  obtain ⟨rom, ram, mbc⟩ := c
  cases mbc with
  | mbc3 r =>
    simp only [Cartridge.afterRead]
    split <;> rfl
  | _ => rfl

end

theorem readMissesCart_eq_false : s.readMissesCart a = false ↔ CanRead s a := by
  unfold State.readMissesCart CanRead CartLoaded
  cases overlaid s a <;> cases s.cart <;> simp

/-- What a bus read does (R72, R88). -/
theorem memRead_ok (h : CanRead s a) : memRead s a = .ok (s.peek a) (s.afterRead a) := by
  simp [memRead, readMissesCart_eq_false.2 h]

theorem memRead_error (h : ¬ CanRead s a) : memRead s a = .error (.mbcNotLoaded a) (s.afterRead a) := by
  have : s.readMissesCart a = true := by
    by_contra hc
    exact h (readMissesCart_eq_false.1 (by simpa using hc))
  simp [memRead, this]

theorem CanRead.congr (hp : t.params = s.params) (hc : t.cart.isSome = s.cart.isSome)
    (hb : t.bus.bootActive = s.bus.bootActive) : CanRead t a ↔ CanRead s a := by
  simp [CanRead, CartLoaded, overlaid, hp, hc, hb]

theorem CanRead.of_high (h : 0xFF00 ≤ a) : CanRead s a := by
  refine Or.inr (Or.inr ?_)
  have h1 : ¬ (a ≤ 0x7FFF ∨ (0xA000 ≤ a ∧ a ≤ 0xBFFF)) := by bv_omega
  unfold route
  rw [if_neg h1]
  repeat' split
  all_goals simp

theorem highPage_le (n : Byte) : 0xFF00 ≤ highPage n := by
  unfold highPage
  bv_omega

/-- A read at an address but 0x0100 leaves what every read gives; the read of 0x0100 only uncovers 0x0000 to 0x00FF (R75). -/
theorem peek_afterRead (h : a ≠ 0x0100 ∨ 0x0100 ≤ b) : (s.afterRead a).peek b = s.peek b := by
  have ho : overlaid (s.afterRead a) b = overlaid s b := by
    unfold overlaid
    rw [State.afterRead_bootActive]
    rcases h with h | h
    · rw [decide_eq_true h, Bool.and_true]
    · have : ¬ b ≤ 0x00FF := by bv_omega
      rw [decide_eq_false this, Bool.and_false, Bool.and_false]
  unfold State.peek
  rw [ho, State.afterRead_params]
  split
  · rfl
  · cases hr : route s.params b with
    | cart =>
      simp only
      rw [State.afterRead_eq]
      by_cases hc : overlaid s a = false ∧ route s.params a = .cart
      · simp only [hc, and_self, if_true]
        cases s.cart <;> simp
      · simp only [hc, if_false]
    | io r =>
      simp only
      cases r <;> simp [ioRead]
    | _ => simp

/-- What a read gives depends on the parameters, the bus, the video engine and the cartridge alone. -/
theorem State.peek_congr (hp : t.params = s.params) (hb : t.bus = s.bus) (hv : t.video = s.video) (hc : t.cart = s.cart) :
    t.peek = s.peek := by
  cases s
  cases t
  simp only at hp hb hv hc
  subst hp hb hv hc
  rfl

@[simp] theorem State.setSp_peek (w : Word) : (s.setSp w).peek = s.peek := State.peek_congr rfl rfl rfl rfl

@[simp] theorem State.setPc_peek (w : Word) : (s.setPc w).peek = s.peek := State.peek_congr rfl rfl rfl rfl

/-- What a read leaves does not depend on the registers. -/
theorem State.afterRead_withRegs (r : Regs) : ({ s with regs := r } : State).afterRead a = { s.afterRead a with regs := r } := by
  rw [State.afterRead_eq, State.afterRead_eq]
  rfl

/-- A read at 0x0100 or above goes by the route alone. -/
theorem State.peek_of_ge (h : 0x0100 ≤ a) : s.peek a =
    match route s.params a with
    | .cart =>
      match s.cart with
      | some c => c.read s.params.mbc1Model a
      | none => 0xFF
    | .vram i => Memory.read s.video.vram i
    | .oam i => Memory.read s.video.oam i
    | .io r => ioRead s r
    | .ie => s.bus.ieReg
    | .flat i => Memory.read s.bus.flat i := by
  have ho : overlaid s a = false := by
    unfold overlaid
    have : ¬ a ≤ 0x00FF := by bv_omega
    rw [decide_eq_false this, Bool.and_false]
  unfold State.peek
  rw [ho]
  rfl

/-! ### Routing -/

theorem route_cart : route s.params a = .cart ↔ a ≤ 0x7FFF ∨ (0xA000 ≤ a ∧ a ≤ 0xBFFF) := by
  unfold route
  constructor
  · intro h
    by_contra hc
    rw [if_neg hc] at h
    repeat' split at h
    all_goals simp at h
  · intro h
    rw [if_pos h]

theorem lookup_mem {α β : Type} [BEq α] [LawfulBEq α] {a : α} {b : β} : ∀ {l : List (α × β)}, l.lookup a = some b → (a, b) ∈ l := by
  intro l
  induction l with
  | nil => intro h; simp at h
  | cons p l ih =>
    obtain ⟨k, v⟩ := p
    intro h
    by_cases hk : a = k
    · subst hk; simp at h; simp [h]
    · rw [List.lookup_cons, beq_false_of_ne hk] at h
      exact List.mem_cons_of_mem _ (ih h)

theorem route_dma : route s.params a = .io .dma ↔ a = 0xFF46 := by
  constructor
  · intro h
    have hr : ioReg? a = some .dma := by
      unfold route at h
      repeat' split at h
      all_goals first | (simp at h; done) | (rw [← Route.io.inj h]; assumption)
    have hl : ioTable.lookup a = some .dma := by
      unfold ioReg? at hr
      repeat' split at hr
      · simp at hr
      · simp at hr
      · exact hr
    have hm := lookup_mem hl
    simp only [ioTable, List.mem_cons, Prod.mk.injEq, reduceCtorEq, and_false, and_true, List.not_mem_nil, or_false, false_or] at hm
    exact hm
  · rintro rfl
    unfold route
    rw [if_neg (by decide), if_neg (by decide), if_neg (by rintro ⟨_, h, _⟩; exact absurd h (by decide)), if_neg (by decide), if_neg (by decide)]
    rfl

/-- The I/O registers are at 0xFF00 and above. -/
theorem route_io {p : Params} {r : IoReg} (h : route p a = .io r) : 0xFF00 ≤ a := by
  have hr : ioReg? a = some r := by
    unfold route at h
    repeat' split at h
    all_goals first | (simp at h; done) | (rw [← Route.io.inj h]; assumption)
  unfold ioReg? at hr
  repeat' split at hr
  · bv_omega
  · bv_omega
  · have hm := lookup_mem hr
    simp only [ioTable, List.mem_cons, Prod.mk.injEq, List.not_mem_nil, or_false] at hm
    rcases hm with h | h | h | h | h | h | h | h | h | h | h | h | h | h | h | h | h | h | h | h | h <;> (rw [h.1]; decide)

/-- What is not the cartridge's is at 0x8000 and above. -/
theorem route_not_cart (h : route s.params a ≠ .cart) : 0x8000 ≤ a := by
  by_contra hc
  exact h (route_cart.2 (Or.inl (by bv_omega)))

/-! ### Writes -/

/-- What a bus write leaves alone, whether it raises an error or not. -/
structure Kept (s t : State) : Prop where
  params : t.params = s.params
  regs : t.regs = s.regs
  ime : t.ime = s.ime
  imePending : t.imePending = s.imePending
  haltBugArmed : t.haltBugArmed = s.haltBugArmed
  opcodeAddr : t.opcodeAddr = s.opcodeAddr
  runState : t.runState = s.runState
  wallClock : t.wallClock = s.wallClock
  cycles : t.cycles = s.cycles
  cart : t.cart.isSome = s.cart.isSome

theorem Kept.refl (s : State) : Kept s s := ⟨rfl, rfl, rfl, rfl, rfl, rfl, rfl, rfl, rfl, rfl⟩

theorem Kept.trans {u : State} (h : Kept s t) (h' : Kept t u) : Kept s u :=
  ⟨h'.params.trans h.params, h'.regs.trans h.regs, h'.ime.trans h.ime, h'.imePending.trans h.imePending,
    h'.haltBugArmed.trans h.haltBugArmed, h'.opcodeAddr.trans h.opcodeAddr, h'.runState.trans h.runState, h'.wallClock.trans h.wallClock,
    h'.cycles.trans h.cycles, h'.cart.trans h.cart⟩

theorem Kept.afterRead : Kept s (s.afterRead a) := by constructor <;> simp

theorem Kept.writeOam {i : Nat} : Kept s (s.writeOam i v) := by constructor <;> simp

/-- A property every read and every OAM store keeps is kept by the DMA copy. -/
theorem dmaCopy_keeps {P : State → Prop} (hr : ∀ s a, P s → P (s.afterRead a)) (hw : ∀ s i v, P s → P (s.writeOam i v))
    (page : Byte) (n : Nat) (s : State) (h : P s) : P (dmaCopy page n s).state := by
  induction n generalizing s with
  | zero => exact h
  | succ n ih =>
    unfold dmaCopy
    by_cases hc : CanRead s (BitVec.ofNat 16 (page.toNat * 256 + (159 - n)))
    · rw [memRead_ok hc]
      exact ih _ (hw _ _ _ (hr _ _ h))
    · rw [memRead_error hc]
      exact hr _ _ h

theorem ioWrite_kept (r : IoReg) (v : Byte) : Kept s (ioWrite s r v).state := by
  cases r
  case dma =>
    have hs : Kept s { s with bus := { s.bus with dmaReg := v } } := by constructor <;> rfl
    simp only [ioWrite]
    generalize { s with bus := { s.bus with dmaReg := v } } = u at hs ⊢
    generalize 160 = n
    exact dmaCopy_keeps (P := fun t => Kept s t) (fun _ _ h => h.trans Kept.afterRead) (fun _ _ _ h => h.trans Kept.writeOam)
      v n u hs
  all_goals constructor <;> rfl

/-- What a bus write leaves alone: the registers, the run state and everything else that is not memory or a device. -/
theorem memWrite_kept : Kept s (memWrite s a v).state := by
  unfold memWrite
  cases hr : route s.params a with
  | cart =>
    cases hc : s.cart with
    | none => exact Kept.refl s
    | some c => constructor <;> simp [Access.state, hc]
  | io r => exact ioWrite_kept r v
  | _ => constructor <;> rfl

theorem State.afterWrite_eq (s : State) (a : Word) (v : Byte) : s.afterWrite a v = (memWrite s a v).state := rfl

section
variable (s a v)
@[simp] theorem State.afterWrite_params : (s.afterWrite a v).params = s.params := memWrite_kept.params
@[simp] theorem State.afterWrite_regs : (s.afterWrite a v).regs = s.regs := memWrite_kept.regs
@[simp] theorem State.afterWrite_ime : (s.afterWrite a v).ime = s.ime := memWrite_kept.ime
@[simp] theorem State.afterWrite_imePending : (s.afterWrite a v).imePending = s.imePending := memWrite_kept.imePending
@[simp] theorem State.afterWrite_haltBugArmed : (s.afterWrite a v).haltBugArmed = s.haltBugArmed := memWrite_kept.haltBugArmed
@[simp] theorem State.afterWrite_opcodeAddr : (s.afterWrite a v).opcodeAddr = s.opcodeAddr := memWrite_kept.opcodeAddr
@[simp] theorem State.afterWrite_runState : (s.afterWrite a v).runState = s.runState := memWrite_kept.runState
@[simp] theorem State.afterWrite_wallClock : (s.afterWrite a v).wallClock = s.wallClock := memWrite_kept.wallClock
@[simp] theorem State.afterWrite_cycles : (s.afterWrite a v).cycles = s.cycles := memWrite_kept.cycles
@[simp] theorem State.afterWrite_cartLoaded : (s.afterWrite a v).cart.isSome = s.cart.isSome := memWrite_kept.cart
end

/-- What a DMA copy does, and what it leaves, does not depend on the run state. -/
theorem dmaCopy_withRunState (page : Byte) (n : Nat) (s : State) (r : RunState) :
    dmaCopy page n { s with runState := r } =
      match dmaCopy page n s with
      | .ok u t => .ok u { t with runState := r }
      | .error e t => .error e { t with runState := r } := by
  induction n generalizing s with
  | zero => rfl
  | succ n ih =>
    unfold dmaCopy
    generalize BitVec.ofNat 16 (page.toNat * 256 + (159 - n)) = a
    have hr : ({ s with runState := r } : State).afterRead a = { s.afterRead a with runState := r } := by
      rw [State.afterRead_eq, State.afterRead_eq]
      rfl
    have hc : CanRead { s with runState := r } a ↔ CanRead s a := CanRead.congr rfl rfl rfl
    by_cases h : CanRead s a
    · rw [memRead_ok h, memRead_ok (hc.2 h), hr]
      exact ih ((s.afterRead a).writeOam (159 - n) (s.peek a))
    · rw [memRead_error h, memRead_error (fun h' => h (hc.1 h')), hr]
      rfl

/-- What a bus write leaves does not depend on the run state. -/
theorem State.afterWrite_withRunState (s : State) (a : Word) (v : Byte) (r : RunState) :
    ({ s with runState := r } : State).afterWrite a v = { s.afterWrite a v with runState := r } := by
  unfold State.afterWrite memWrite
  cases hr : route s.params a with
  | cart => cases hc : s.cart <;> simp [Access.state, hc]
  | io x =>
    cases x with
    | dma =>
      have h := dmaCopy_withRunState v 160 { s with bus := { s.bus with dmaReg := v } } r
      simp only [ioWrite] at h ⊢
      rw [h]
      cases dmaCopy v 160 { s with bus := { s.bus with dmaReg := v } } <;> rfl
    | _ => rfl
  | _ => rfl

/-- A DMA copy none of whose reads misses the cartridge completes. -/
theorem dmaCopy_ok (page : Byte) (n : Nat) (hn : n ≤ 160) (s : State)
    (h : ∀ i : Nat, i < 160 → CanRead s (dmaSource page i)) : ∃ t, dmaCopy page n s = .ok () t := by
  induction n generalizing s with
  | zero => exact ⟨s, rfl⟩
  | succ n ih =>
    unfold dmaCopy
    have h0 : CanRead s (BitVec.ofNat 16 (page.toNat * 256 + (159 - n))) := h (159 - n) (by omega)
    rw [memRead_ok h0]
    refine ih (by omega) _ (fun i hi => ?_)
    rcases h i hi with hc | ho | hr
    · exact Or.inl (by simpa [CartLoaded] using hc)
    · by_cases hz : BitVec.ofNat 16 (page.toNat * 256 + (159 - n)) = (0x0100 : Word)
      · have h1 := h0
        rw [hz] at h1
        have hl : CartLoaded s := by
          rcases h1 with h1 | h1 | h1
          · exact h1
          · simp [overlaid] at h1
          · exact absurd (route_cart.2 (by decide)) h1
        exact Or.inl (by simpa [CartLoaded] using hl)
      · refine Or.inr (Or.inl ?_)
        unfold overlaid at ho ⊢
        rw [State.writeOam_bus, State.afterRead_bootActive, decide_eq_true hz, Bool.and_true]
        exact ho
    · exact Or.inr (Or.inr (by simpa using hr))

/-- What a bus write does (R73, R88). -/
theorem memWrite_ok (h : CanWrite s a v) : memWrite s a v = .ok () (s.afterWrite a v) := by
  suffices hh : ∃ t, memWrite s a v = .ok () t by
    obtain ⟨t, ht⟩ := hh
    rw [State.afterWrite_eq, ht]
    rfl
  unfold memWrite
  cases hr : route s.params a with
  | cart =>
    rcases h with h | h
    · cases hc : s.cart with
      | none => simp [CartLoaded, hc] at h
      | some c => exact ⟨_, rfl⟩
    · exact absurd hr h.1
  | io r =>
    cases r
    case dma =>
      simp only [ioWrite]
      generalize hn : 160 = n
      refine dmaCopy_ok v n hn.ge _ (fun i hi => ?_)
      rcases h with h | h
      · exact Or.inl h
      · exact h.2 (route_dma.1 hr) i hi
    all_goals exact ⟨_, rfl⟩
  | _ => exact ⟨_, rfl⟩

theorem CanWrite.congr (hp : t.params = s.params) (hc : t.cart.isSome = s.cart.isSome)
    (hb : t.bus.bootActive = s.bus.bootActive) : CanWrite t a v ↔ CanWrite s a v := by
  simp [CanWrite, CanRead, CartLoaded, overlaid, hp, hc, hb]

theorem dmaCopy_succ (page : Byte) (n : Nat) (s : State) : dmaCopy page (n + 1) s =
    (memRead s (BitVec.ofNat 16 (page.toNat * 256 + (159 - n)))).bind fun v t => dmaCopy page n (t.writeOam (159 - n) v) := rfl

/-- The bytes of a page go the same way: all to the cartridge or none, all under the overlay or none. -/
theorem CanRead.of_page_start {page : Byte} {i : Nat} (hi : i < 256) (h : CanRead s (dmaSource page 0)) :
    CanRead s (dmaSource page i) := by
  have hp := page.isLt
  have h0 : (dmaSource page 0).toNat = page.toNat * 256 := by simp [dmaSource]; omega
  have h1 : (dmaSource page i).toNat = page.toNat * 256 + i := by simp [dmaSource]; omega
  rcases h with h | h | h
  · exact Or.inl h
  · refine Or.inr (Or.inl ?_)
    simp only [overlaid, Bool.and_eq_true, decide_eq_true_eq, BitVec.le_def, BitVec.ofNat_eq_ofNat, BitVec.reduceToNat] at h ⊢
    exact ⟨h.1, by omega⟩
  · refine Or.inr (Or.inr fun hc => h (route_cart.2 ?_))
    have := route_cart.1 hc
    simp only [BitVec.le_def, BitVec.ofNat_eq_ofNat, BitVec.reduceToNat] at this ⊢
    omega

/-- What a bus write that misses the cartridge does (R73, R88, R470). -/
theorem memWrite_error (h : ¬ CanWrite s a v) :
    memWrite s a v = .error (.mbcNotLoaded (missedAddr a v)) (s.afterWrite a v) := by
  have hc : s.cart = none := by
    by_contra hn
    exact h (Or.inl (by simpa [CartLoaded, Option.isSome_iff_ne_none] using hn))
  suffices hh : ∃ t, memWrite s a v = .error (.mbcNotLoaded (missedAddr a v)) t by
    obtain ⟨t, ht⟩ := hh
    rw [State.afterWrite_eq, ht]
    rfl
  by_cases hr : route s.params a = .cart
  · have hne : a ≠ 0xFF46 := by
      rintro rfl
      exact absurd (route_cart.1 hr) (by decide)
    exact ⟨s, by simp only [memWrite, hr, hc, missedAddr, if_neg hne]⟩
  · have hd : ¬ (a = 0xFF46 → ∀ i : Nat, i < 160 → CanRead s (dmaSource v i)) := fun hd => h (Or.inr ⟨hr, hd⟩)
    obtain ⟨ha, hd⟩ := Classical.not_imp.1 hd
    have h0 : ¬ CanRead s (dmaSource v 0) := fun h0 => hd fun i hi => CanRead.of_page_start (by omega) h0
    have h0' : ¬ CanRead { s with bus := { s.bus with dmaReg := v } } (dmaSource v 0) := h0
    subst ha
    refine ⟨({ s with bus := { s.bus with dmaReg := v } } : State).afterRead (dmaSource v 0), ?_⟩
    unfold memWrite
    rw [route_dma.2 rfl]
    have hm := memRead_error h0'
    simp only [ioWrite]
    generalize hu : ({ s with bus := { s.bus with dmaReg := v } } : State) = u at hm ⊢
    have hs : dmaCopy v 160 u = (memRead u (dmaSource v 0)).bind fun w t => dmaCopy v 159 (t.writeOam 0 w) :=
      dmaCopy_succ v 159 u
    rw [hs, hm]
    rfl

/-- A read of the high page leaves the state as it was (R82). -/
theorem State.afterRead_of_high (h : 0xFF00 ≤ a) : s.afterRead a = s := by
  have hr : route s.params a ≠ .cart := fun hc => by
    have := route_cart.1 hc
    bv_omega
  have hne : a ≠ 0x0100 := by bv_omega
  rw [State.afterRead_eq, decide_eq_true hne, Bool.and_true, if_neg (fun hh => hr hh.2)]

end Sys2Proof.Machine
end

