-- ==== Sys2Proof/Laws/Decode.lean ====
section
/-! SUPPORT. What the decoder ignores, and the lengths (30_encoding.md R180, R181). -/

namespace Sys2Proof

theorem instrLength_cases (op : Byte) : instrLength op = 1 ∨ instrLength op = 2 ∨ instrLength op = 3 := by
  unfold instrLength
  split
  · simp
  · split <;> simp

/-- The prefix byte is followed by one byte. -/
theorem instrLength_cb : instrLength 0xCB = 2 := by decide

/-- A one-byte instruction does not depend on the bytes after it. -/
theorem decodeBytes_one {op : Byte} (h : instrLength op = 1) (b1 b2 : Byte) : decodeBytes op b1 b2 = decodeBytes op 0 0 := by
  obtain ⟨k, hk, rfl⟩ : ∃ k, k < 256 ∧ op = BitVec.ofNat 8 k := ⟨op.toNat, op.isLt, by simp⟩
  interval_cases k <;> first | exact absurd h (by decide) | rfl

/-- A two-byte instruction does not depend on the byte after it. -/
theorem decodeBytes_two {op : Byte} (h : instrLength op = 2) (b1 b2 : Byte) : decodeBytes op b1 b2 = decodeBytes op b1 0 := by
  have hm : op ∈ twoByteOpcodes := by
    unfold instrLength at h
    split at h
    · omega
    · split at h
      · assumption
      · omega
  simp only [twoByteOpcodes, List.mem_cons, List.not_mem_nil, or_false] at hm
  rcases hm with rfl | rfl | rfl | rfl | rfl | rfl | rfl | rfl | rfl | rfl | rfl | rfl | rfl | rfl | rfl | rfl | rfl | rfl | rfl |
    rfl | rfl | rfl | rfl | rfl | rfl | rfl | rfl <;> rfl

end Sys2Proof
end

