-- ==== Sys2Proof/Laws/Devices.lean ====
section
/-! SUPPORT. What the timer and the video engine can change, once (60_exceptions.md R450 to R456; 61_video.md R510 to R531). -/

namespace Sys2Proof.Machine

variable {s t u : State}

/-- `t` differs from `s` at most in the timer, the video engine and IF. -/
structure DeviceChange (s t : State) : Prop where
  params : t.params = s.params
  regs : t.regs = s.regs
  ime : t.ime = s.ime
  imePending : t.imePending = s.imePending
  haltBugArmed : t.haltBugArmed = s.haltBugArmed
  opcodeAddr : t.opcodeAddr = s.opcodeAddr
  runState : t.runState = s.runState
  cart : t.cart = s.cart
  wallClock : t.wallClock = s.wallClock
  cycles : t.cycles = s.cycles
  bus : t.bus = { s.bus with timer := t.bus.timer, ifReg := t.bus.ifReg }

/-- `t` differs from `s` at most in the video engine and IF. -/
structure VideoChange (s t : State) : Prop where
  device : DeviceChange s t
  timer : t.bus.timer = s.bus.timer

theorem DeviceChange.refl (s : State) : DeviceChange s s := ⟨rfl, rfl, rfl, rfl, rfl, rfl, rfl, rfl, rfl, rfl, rfl⟩

theorem DeviceChange.trans (h : DeviceChange s t) (h' : DeviceChange t u) : DeviceChange s u :=
  ⟨h'.params.trans h.params, h'.regs.trans h.regs, h'.ime.trans h.ime, h'.imePending.trans h.imePending,
    h'.haltBugArmed.trans h.haltBugArmed, h'.opcodeAddr.trans h.opcodeAddr, h'.runState.trans h.runState, h'.cart.trans h.cart,
    h'.wallClock.trans h.wallClock, h'.cycles.trans h.cycles, by rw [h'.bus, h.bus]⟩

theorem VideoChange.refl (s : State) : VideoChange s s := ⟨DeviceChange.refl s, rfl⟩

theorem VideoChange.trans (h : VideoChange s t) (h' : VideoChange t u) : VideoChange s u :=
  ⟨h.device.trans h'.device, h'.timer.trans h.timer⟩

theorem requestInterrupt_videoChange (k : Irq) : VideoChange s (s.requestInterrupt k) := by
  constructor
  · constructor <;> rfl
  · rfl

theorem requestStatIf_videoChange (b : Bool) : VideoChange s (s.requestStatIf b) := by
  cases b
  · exact VideoChange.refl s
  · exact requestInterrupt_videoChange .lcdStat

theorem withVideo_videoChange (v : Video) : VideoChange s (s.withVideo v) := by
  constructor
  · constructor <;> rfl
  · rfl

/-! ### The timer -/

theorem timaIncrement_change : DeviceChange s (timaIncrement s) := by
  unfold timaIncrement
  simp only
  split
  · constructor <;> rfl
  · constructor <;> rfl

theorem timaIncrements_change (n : Nat) : DeviceChange s (timaIncrements n s) := by
  induction n generalizing s with
  | zero => exact DeviceChange.refl s
  | succ n ih => exact timaIncrement_change.trans ih

/-- The timer changes itself and IF alone. -/
theorem timerAdvance_change (c : Nat) : DeviceChange s (timerAdvance c s) := by
  unfold timerAdvance timaAdvance
  simp only
  split
  · refine DeviceChange.trans ?_ (timaIncrements_change _)
    constructor <;> rfl
  · constructor <;> rfl

theorem timerAdvance_video (c : Nat) : (timerAdvance c s).video = s.video := by
  have h : ∀ n t, (timaIncrements n t).video = t.video := by
    intro n
    induction n with
    | zero => intro t; rfl
    | succ n ih =>
      intro t
      rw [timaIncrements, ih]
      unfold timaIncrement
      simp only
      split <;> rfl
  unfold timerAdvance timaAdvance
  simp only
  split
  · rw [h]
  · rfl

/-! ### The video engine -/

theorem enterMode_change (m : Mode) : VideoChange s (enterMode m s) :=
  (withVideo_videoChange _).trans (requestStatIf_videoChange _)

/-- A requested STAT interrupt sets IF bit 1 and nothing else. -/
theorem requestStatIf_eq (b : Bool) :
    s.requestStatIf b = { s with bus := { s.bus with ifReg := s.bus.ifReg ||| (if b then 0b00010 else 0) } } := by
  cases b
  · simp [State.requestStatIf]
  · rfl

/-- Turning the LCD on (61_video.md R512). -/
theorem lcdOn_eq (s : State) :
    let hit := decide (0 = s.video.lyc.toNat)
    lcdOn s = { s with
      video := { s.video with lcdActive := true, ly := 0, lineCycle := 0, coinc := hit, mode := .oamScan }
      bus := { s.bus with
        ifReg := s.bus.ifReg ||| (if (hit && s.video.statSel.getLsbD 3) || s.video.statSel.getLsbD 2 then 0b00010 else 0) } } := by
  simp only [lcdOn, lycCheck, enterMode, State.withVideo, requestStatIf_eq, BitVec.or_assoc]
  generalize s.video.statSel.getLsbD 3 = lyc
  generalize s.video.statSel.getLsbD 2 = scan
  by_cases h : s.video.lyc.toNat = 0 <;> cases lyc <;> cases scan <;> simp [h, @eq_comm Nat 0]

theorem enterMode_video (m : Mode) : (enterMode m s).video = { s.video with mode := m } := by simp [enterMode]

theorem lycCheck_change : VideoChange s (lycCheck s) := (withVideo_videoChange _).trans (requestStatIf_videoChange _)

theorem lycCheck_video : (lycCheck s).video = { s.video with coinc := decide (s.video.ly = s.video.lyc.toNat) } := by
  simp [lycCheck]

theorem enterVblank_change : VideoChange s (enterVblank s) :=
  ((enterMode_change .vblank).trans (requestInterrupt_videoChange .vblank)).trans (withVideo_videoChange _)

theorem enterVblank_video : (enterVblank s).video =
    { s.video with mode := .vblank, viewport := s.video.lines, winLine := 0, winYLatch := false } := by
  simp [enterVblank, enterMode_video]

theorem beginLine_change : VideoChange s (beginLine s) := by
  unfold beginLine
  split
  · exact enterVblank_change
  · split
    · exact enterMode_change _
    · exact VideoChange.refl _

theorem lineEnd_change : VideoChange s (lineEnd s) :=
  (((withVideo_videoChange _).trans lycCheck_change).trans (withVideo_videoChange _)).trans beginLine_change

theorem cycleEvent_change : VideoChange s (cycleEvent s) := by
  unfold cycleEvent
  split
  · exact lineEnd_change
  · split
    · exact withVideo_videoChange _
    · split
      · exact enterMode_change _
      · exact VideoChange.refl _

theorem videoTick_change : VideoChange s (videoTick s) := (withVideo_videoChange _).trans cycleEvent_change

theorem videoTicks_change (c : Nat) : VideoChange s (videoTicks c s) := by
  induction c generalizing s with
  | zero => exact VideoChange.refl s
  | succ c ih => exact videoTick_change.trans ih

/-- The video engine changes itself and IF alone. -/
theorem videoAdvance_change (c : Nat) : VideoChange s (videoAdvance c s) := by
  unfold videoAdvance
  split
  · exact withVideo_videoChange _
  · refine VideoChange.trans ?_ (videoTicks_change c)
    split
    · exact VideoChange.refl s
    · exact ((withVideo_videoChange _).trans lycCheck_change).trans (enterMode_change _)

theorem videoTicks_add (m n : Nat) : videoTicks (m + n) s = videoTicks n (videoTicks m s) := by
  induction m generalizing s with
  | zero => rw [Nat.zero_add]; rfl
  | succ m ih => rw [Nat.succ_add]; exact ih

end Sys2Proof.Machine
end

