-- ==== Sys2Proof/Laws/Storage.lean ====
section
/-! SUPPORT. Every memory of the machine is in its canonical form at reset, and every bus access keeps it. -/

namespace Sys2Proof.Machine

variable {s : State} {a : Word} {v : Byte}

/-! ### The cartridge -/

theorem Cartridge.ramWrite_wf {c : Cartridge} {en : Bool} {bank off : Nat} (h : CartWf c) :
    CartWf (c.ramWrite en bank off v) := by
  unfold Cartridge.ramWrite
  split
  · exact h
  · split
    · exact ⟨Memory.write_wf h.1, h.2⟩
    · exact h

theorem Mbc3.advance_bank7 (now : Nat) (r : Mbc3) : (r.advance now).bank7 = r.bank7 := rfl

theorem Mbc3.latchStep_bank7 (now : Nat) (r : Mbc3) : (r.latchStep now v).bank7 = r.bank7 := by
  unfold Mbc3.latchStep
  split <;> rfl

theorem Cartridge.afterRead_wf {c : Cartridge} (now : Nat) (a : Word) (h : CartWf c) : CartWf (c.afterRead now a) := by
  obtain ⟨rom, ram, mbc⟩ := c
  cases mbc with
  | mbc3 r =>
    simp only [Cartridge.afterRead]
    split
    · exact ⟨h.1, h.2⟩
    · exact h
  | _ => exact h

theorem Cartridge.write_wf {c : Cartridge} (now : Nat) (a : Word) (v : Byte) (h : CartWf c) : CartWf (c.write now a v) := by
  obtain ⟨rom, ram, mbc⟩ := c
  cases mbc with
  | noMbc arr =>
    simp only [Cartridge.write, writeNoMbc]
    split
    · exact h
    · exact ⟨h.1, arrWrite_wf h.2⟩
  | mbc1 r =>
    simp only [Cartridge.write, writeMbc1]
    repeat' split
    all_goals first
      | exact ⟨h.1, h.2⟩
      | exact Cartridge.ramWrite_wf h
      | exact ⟨h.1, show (1 : BitVec 5) ≠ 0 by decide⟩
      | exact ⟨h.1, by assumption⟩
  | mbc2 r =>
    simp only [Cartridge.write, writeMbc2]
    repeat' split
    all_goals first
      | exact ⟨h.1, h.2⟩
      | exact ⟨Memory.write_wf h.1, h.2⟩
      | exact ⟨h.1, show (1 : BitVec 4) ≠ 0 by decide⟩
      | exact ⟨h.1, by assumption⟩
  | mbc3 r =>
    simp only [Cartridge.write, writeMbc3]
    repeat' split
    all_goals first
      | exact ⟨h.1, h.2⟩
      | exact Cartridge.ramWrite_wf h
      | exact ⟨h.1, show (Mbc3.latchStep now r v).bank7 ≠ 0 by rw [Mbc3.latchStep_bank7]; exact h.2⟩
      | exact ⟨h.1, show (1 : BitVec 7) ≠ 0 by decide⟩
      | exact ⟨h.1, by assumption⟩
  | mbc5 r =>
    simp only [Cartridge.write, writeMbc5]
    repeat' split
    all_goals first
      | exact ⟨h.1, h.2⟩
      | exact Cartridge.ramWrite_wf h

/-! ### The bus -/

theorem State.afterRead_memWf (h : MemWf s) : MemWf (s.afterRead a) := by
  obtain ⟨h1, h2, h3, h4, h5, h6, h7⟩ := h
  rw [State.afterRead_eq]
  refine ⟨h1, h2, h3, h4, h5, h6, ?_⟩
  intro c hc
  simp only at hc
  split at hc
  · obtain ⟨d, hd, rfl⟩ := Option.mem_map.1 hc
    exact Cartridge.afterRead_wf _ _ (h7 d hd)
  · exact h7 c hc

theorem State.writeOam_memWf {i : Nat} (h : MemWf s) : MemWf (s.writeOam i v) := by
  obtain ⟨h1, h2, h3, h4, h5, h6, h7⟩ := h
  exact ⟨h1, h2, h3, Memory.write_wf h4, h5, h6, h7⟩

theorem ioWrite_memWf (r : IoReg) (h : MemWf s) : MemWf (ioWrite s r v).state := by
  have h' := h
  obtain ⟨h1, h2, h3, h4, h5, h6, h7⟩ := h
  cases r
  case audio a =>
    refine ⟨h1, ?_, h3, h4, h5, h6, h7⟩
    simp only [ioWrite, Access.state, audioWrite]
    split
    · exact Memory.write_wf h2
    · exact h2
  case nr52 =>
    have hw : Memory.wf (nr52Write s.bus.audio v).regs := by
      unfold nr52Write
      generalize List.replicate 22 (0 : Byte) = zeros
      split
      · exact h2
      · exact Memory.writeAll_wf h2
    exact ⟨h1, hw, h3, h4, h5, h6, h7⟩
  case wave a => exact ⟨h1, Memory.write_wf h2, h3, h4, h5, h6, h7⟩
  case dma =>
    have hs : MemWf { s with bus := { s.bus with dmaReg := v } } := ⟨h1, h2, h3, h4, h5, h6, h7⟩
    simp only [ioWrite]
    generalize { s with bus := { s.bus with dmaReg := v } } = u at hs ⊢
    generalize 160 = n
    exact dmaCopy_keeps (P := fun t => MemWf t) (fun _ _ h => State.afterRead_memWf h)
      (fun _ _ _ h => State.writeOam_memWf h) v n u hs
  all_goals exact ⟨h1, h2, h3, h4, h5, h6, h7⟩

/-- A bus write keeps every memory canonical. -/
theorem State.afterWrite_memWf (h : MemWf s) : MemWf (s.afterWrite a v) := by
  have h' := h
  obtain ⟨h1, h2, h3, h4, h5, h6, h7⟩ := h
  unfold State.afterWrite memWrite
  cases hr : route s.params a with
  | cart =>
    cases hc : s.cart with
    | none => exact h'
    | some c =>
      refine ⟨h1, h2, h3, h4, h5, h6, ?_⟩
      intro d hd
      obtain rfl : c.write s.wallClock a v = d := by simpa [Access.state] using hd
      exact Cartridge.write_wf _ _ _ (h7 c hc)
  | vram i => exact ⟨h1, h2, Memory.write_wf h3, h4, h5, h6, h7⟩
  | oam i => exact State.writeOam_memWf h'
  | io r => exact ioWrite_memWf r h'
  | ie => exact ⟨h1, h2, h3, h4, h5, h6, h7⟩
  | flat i => exact ⟨Memory.write_wf h1, h2, h3, h4, h5, h6, h7⟩

/-! ### Reset -/

theorem loadCartridge_wf {rom : Image} {init : Memory} {now : Nat} {c : Cartridge}
    (h : loadCartridge rom init now = .ok c) : CartWf c := by
  unfold loadCartridge at h
  split at h
  · simp at h
  · split at h
    · simp at h
    · next mbc hm =>
      simp only [Except.ok.injEq] at h
      subst h
      refine ⟨Memory.slice_wf _ _ _ _, ?_⟩
      unfold mbcOfType at hm
      simp only at hm
      repeat' split at hm
      all_goals simp only [Option.some.injEq, reduceCtorEq] at hm
      all_goals subst hm
      all_goals first | exact cellsWf_nil | trivial | (show (1 : BitVec _) ≠ 0; decide)

/-- Every memory is canonical after construction, whatever the parameters. -/
theorem State.construct_memWf (p : Params) (now : Nat) : MemWf (State.construct p now) := by
  refine ⟨Memory.slice_wf _ _ _ _, ?_, Memory.slice_wf _ _ _ _, Memory.slice_wf _ _ _ _, Frame.wf_nil, Frame.wf_nil, ?_⟩
  · simp only [State.construct, busAtReset]
    split
    · exact Memory.slice_wf _ _ _ _
    · exact Memory.writeAll_wf (Memory.slice_wf _ _ _ _)
  · intro c hc
    simp only [State.construct] at hc
    cases hl : loadCartridge p.rom p.cartRamInit now with
    | error e => rw [hl] at hc; simp [Except.toOption] at hc
    | ok d =>
      rw [hl] at hc
      simp only [Except.toOption, Option.mem_def, Option.some.injEq] at hc
      subst hc
      exact loadCartridge_wf hl

end Sys2Proof.Machine
end

