-- ==== Sys2Proof/Laws/Ops.lean ====
section
/-! SUPPORT. What the named operations do, with and without an access that misses the cartridge (00_scope.md R15; 60_exceptions.md
R437, R442). -/

namespace Sys2Proof.Machine

variable {s : State} {a : Word} {v : Byte}

@[simp] theorem Access.bind_ok {α β : Type} (x : α) (s : State) (f : α → State → Access β) : (Access.ok x s).bind f = f x s := rfl

@[simp] theorem Access.bind_error {α β : Type} (e : Fault) (s : State) (f : α → State → Access β) :
    (Access.error e s).bind f = .error e s := rfl

@[simp] theorem finish_ok (cost : Nat) (s : State) : finish cost (.ok () s) = .next { s with cycles := cost } := rfl

@[simp] theorem finish_error (cost : Nat) (e : Fault) (s : State) : finish cost (.error e s) = .next (s.raise e) := rfl

/-! ### A write's own conditions do not depend on the registers -/

theorem canWrite_setSp (w : Word) : CanWrite (s.setSp w) a v ↔ CanWrite s a v := CanWrite.congr rfl rfl rfl

theorem canRead_setSp (w : Word) : CanRead (s.setSp w) a ↔ CanRead s a := CanRead.congr rfl rfl rfl

/-- After one write, a further write that raised nothing before still raises nothing. -/
theorem CanWrite.afterWrite {b : Word} {w : Byte} (hne : b ≠ a) (hb : CanWrite s b w) :
    CanWrite (s.afterWrite a v) b w := by
  rcases hb with hb | ⟨hr, hd⟩
  · exact Or.inl (by simpa [CartLoaded] using hb)
  · refine Or.inr ⟨by simpa using hr, fun h i hi => ?_⟩
    rcases hd h i hi with hc | ho | hr'
    · exact Or.inl (by simpa [CartLoaded] using hc)
    · refine Or.inr (Or.inl ?_)
      have hboot : (s.afterWrite a v).bus.bootActive = s.bus.bootActive := by
        have hna : a ≠ 0xFF46 := fun hh => hne (h.trans hh.symm)
        unfold State.afterWrite memWrite
        cases hra : route s.params a with
        | cart => cases hc : s.cart <;> rfl
        | io r =>
          cases r
          case dma => exact absurd (route_dma.1 hra) hna
          all_goals rfl
        | _ => rfl
      unfold overlaid at ho ⊢
      rw [hboot]
      exact ho
    · exact Or.inr (Or.inr (by simpa using hr'))

/-! ### Push, pop, fetch -/

/-- What a push does. -/
theorem push16_ok {w : Word} (h : CanPush s w) : push16 s w = .ok () (s.afterPush w) := by
  have h1 : CanWrite (s.setSp (s.regs.sp - 1)) (s.regs.sp - 1) (hiByte w) := (canWrite_setSp _).2 h.1
  have h2 : CanWrite (s.setSp (s.regs.sp - 1)) (s.regs.sp - 2) (loByte w) := (canWrite_setSp _).2 h.2
  have hne : s.regs.sp - 2 ≠ s.regs.sp - 1 := by bv_omega
  have hsub : s.regs.sp - 1 - 1 = s.regs.sp - 2 := by bv_omega
  unfold push16
  simp only [State.setSp_regs_sp, memWrite_ok h1, Access.bind_ok, State.afterWrite_regs]
  rw [hsub, memWrite_ok ((canWrite_setSp _).2 (CanWrite.afterWrite hne h2))]
  rfl

/-- What a pop does. -/
theorem pop16_ok (h : CanPop s) : pop16 s = .ok s.topWord s.afterPop := by
  have h2 : CanRead ((s.afterRead s.regs.sp).setSp (s.regs.sp + 1)) (s.regs.sp + 1) := by
    rw [canRead_setSp]
    rcases h.2 with hc | ho | hr
    · exact Or.inl (by simpa [CartLoaded] using hc)
    · by_cases hz : s.regs.sp = 0x0100
      · simp [overlaid, hz] at ho
      · refine Or.inr (Or.inl ?_)
        unfold overlaid at ho ⊢
        rw [State.afterRead_bootActive, decide_eq_true hz, Bool.and_true]
        exact ho
    · exact Or.inr (Or.inr (by simpa using hr))
  have hp : ((s.afterRead s.regs.sp).setSp (s.regs.sp + 1)).peek (s.regs.sp + 1) = s.peek (s.regs.sp + 1) := by
    rw [State.setSp_peek]
    apply peek_afterRead
    by_cases hz : s.regs.sp = 0x0100
    · right; rw [hz]; decide
    · left; exact hz
  have hr : ((s.afterRead s.regs.sp).setSp (s.regs.sp + 1)).afterRead (s.regs.sp + 1) =
      ((s.afterRead s.regs.sp).afterRead (s.regs.sp + 1)).setSp (s.regs.sp + 1) := by
    unfold State.setSp
    rw [State.afterRead_withRegs, State.afterRead_regs (s.afterRead s.regs.sp)]
  unfold pop16
  simp only [memRead_ok h.1, Access.bind_ok, State.afterRead_regs, State.setSp_regs_sp]
  rw [memRead_ok h2]
  simp only [Access.bind_ok, hp, hr]
  have hsp : s.regs.sp + 1 + 1 = s.regs.sp + 2 := by bv_omega
  unfold State.topWord State.afterPop
  simp only [State.setSp_regs_sp, hsp]
  rfl

/-- What a fetch does. -/
theorem fetch8_ok (h : CanRead s s.regs.pc) :
    fetch8 s = .ok (s.peek s.regs.pc) ((s.afterRead s.regs.pc).setPc (s.regs.pc + 1)) := by
  simp [fetch8, memRead_ok h]

@[simp] theorem State.fetchAddr_zero : s.fetchAddr 0 = s.regs.pc := by
  unfold State.fetchAddr
  split <;> simp

/-- What the opcode fetch does, in either case of the halt bug (10_state.md R39). -/
theorem fetchOpcode_ok (h : CanRead s s.regs.pc) : fetchOpcode s = .ok (s.peek s.regs.pc) (s.afterFetch 1) := by
  simp only [fetchOpcode, memRead_ok h, Access.bind_ok, State.opcodeFetched, State.afterFetch, State.fetchAddr, List.range_one,
    List.foldl_cons, List.foldl_nil, State.afterRead_haltBugArmed, State.afterRead_regs]
  cases hb : s.haltBugArmed <;> simp [State.setPc]

/-- What dispatch does (R437). -/
theorem dispatch_ok {k : Irq} (h : CanPush s s.regs.pc) :
    dispatch k s = .ok () { (({ s with ime := false }).afterPush s.regs.pc) with
      bus := { (({ s with ime := false }).afterPush s.regs.pc).bus with
        ifReg := (({ s with ime := false }).afterPush s.regs.pc).bus.ifReg &&& ~~~((1 : BitVec 5) <<< irqBit k) }
      regs := { (({ s with ime := false }).afterPush s.regs.pc).regs with pc := irqVector k } } := by
  have h' : CanPush { s with ime := false } s.regs.pc := h
  unfold dispatch
  rw [push16_ok h']
  rfl

/-- What the return from a handler does (R442). -/
theorem returnFromInterrupt_ok (h : CanPop s) : returnFromInterrupt s =
    .ok () { s.afterPop with regs := { s.afterPop.regs with pc := s.topWord }, ime := true, imePending := false } := by
  unfold returnFromInterrupt
  rw [pop16_ok h]
  rfl

@[simp] theorem State.afterPush_regs (w : Word) : (s.afterPush w).regs = { s.regs with sp := s.regs.sp - 2 } := by
  simp [State.afterPush, State.setSp]

/-- What a push leaves does not depend on the run state. -/
theorem State.afterPush_withRunState (w : Word) (r : RunState) :
    ({ s with runState := r } : State).afterPush w = { s.afterPush w with runState := r } := by
  have h1 := State.afterWrite_withRunState (s.setSp (s.regs.sp - 1)) (s.regs.sp - 1) (hiByte w) r
  have h2 := State.afterWrite_withRunState (((s.setSp (s.regs.sp - 1)).afterWrite (s.regs.sp - 1) (hiByte w)).setSp
    (s.regs.sp - 2)) (s.regs.sp - 2) (loByte w) r
  exact (congrArg (fun u : State => (u.setSp (s.regs.sp - 2)).afterWrite (s.regs.sp - 2) (loByte w)) h1).trans h2

@[simp] theorem State.afterPop_regs : s.afterPop.regs = { s.regs with sp := s.regs.sp + 2 } := by
  simp [State.afterPop, State.setSp]

/-! ### Accesses that miss the cartridge -/

/-- After one write with no cartridge loaded, a further write raises what it raised before. -/
theorem canWrite_afterWrite {b : Word} {w : Byte} (hne : b ≠ a) :
    CanWrite (s.afterWrite a v) b w ↔ CanWrite s b w := by
  refine ⟨fun hb => ?_, CanWrite.afterWrite hne⟩
  by_cases hc : CartLoaded s
  · exact Or.inl hc
  have hc' : ¬ CartLoaded (s.afterWrite a v) := by simpa [CartLoaded] using hc
  rcases hb with hb | ⟨hr, hd⟩
  · exact absurd hb hc'
  · refine Or.inr ⟨by simpa using hr, fun hb i hi => ?_⟩
    have hna : a ≠ 0xFF46 := fun hh => hne (hb.trans hh.symm)
    have hboot : (s.afterWrite a v).bus.bootActive = s.bus.bootActive := by
      unfold State.afterWrite memWrite
      cases hra : route s.params a with
      | cart => cases hc : s.cart <;> rfl
      | io r =>
        cases r
        case dma => exact absurd (route_dma.1 hra) hna
        all_goals rfl
      | _ => rfl
    exact (CanRead.congr (State.afterWrite_params s a v) (State.afterWrite_cartLoaded s a v) hboot).1 (hd hb i hi)

/-- What a push that misses the cartridge does. -/
theorem push16_error {w : Word} (h : ¬ CanPush s w) : ∃ e t, push16 s w = .error e t ∧ t.raise e = s.pushMissed w := by
  have hne : s.regs.sp - 2 ≠ s.regs.sp - 1 := by bv_omega
  have hsub : s.regs.sp - 1 - 1 = s.regs.sp - 2 := by bv_omega
  unfold push16 State.pushMissed
  simp only [State.setSp_regs_sp]
  by_cases h1 : CanWrite s (s.regs.sp - 1) (hiByte w)
  · have h2 : ¬ CanWrite s (s.regs.sp - 2) (loByte w) := fun h2 => h ⟨h1, h2⟩
    have h1' : CanWrite (s.setSp (s.regs.sp - 1)) (s.regs.sp - 1) (hiByte w) := (canWrite_setSp _).2 h1
    have h2' : ¬ CanWrite (s.setSp (s.regs.sp - 1)) (s.regs.sp - 2) (loByte w) := fun h => h2 ((canWrite_setSp _).1 h)
    rw [if_pos h1]
    simp only [memWrite_ok h1', Access.bind_ok, State.afterWrite_regs, State.setSp_regs_sp]
    rw [hsub, memWrite_error (fun hc => h2' ((canWrite_afterWrite hne).1 ((canWrite_setSp _).1 hc)))]
    exact ⟨_, _, rfl, rfl⟩
  · have h1' : ¬ CanWrite (s.setSp (s.regs.sp - 1)) (s.regs.sp - 1) (hiByte w) := fun h => h1 ((canWrite_setSp _).1 h)
    rw [if_neg h1, memWrite_error h1']
    exact ⟨_, _, rfl, rfl⟩

/-- What a pop that misses the cartridge does. -/
theorem pop16_error (h : ¬ CanPop s) : ∃ e t, pop16 s = .error e t ∧ t.raise e = s.popMissed := by
  unfold pop16 State.popMissed
  by_cases h1 : CanRead s s.regs.sp
  · have h2 : ¬ CanRead s (s.regs.sp + 1) := fun h2 => h ⟨h1, h2⟩
    have h2' : ¬ CanRead ((s.afterRead s.regs.sp).setSp (s.regs.sp + 1)) (s.regs.sp + 1) := by
      rw [canRead_setSp]
      intro hc
      refine h2 ?_
      rcases hc with hc | ho | hr
      · exact Or.inl (by simpa [CartLoaded] using hc)
      · refine Or.inr (Or.inl ?_)
        simp only [overlaid, State.afterRead_bootActive, Bool.and_eq_true] at ho ⊢
        exact ⟨ho.1.1, ho.2⟩
      · exact Or.inr (Or.inr (by simpa using hr))
    rw [if_pos h1]
    simp only [memRead_ok h1, Access.bind_ok, State.afterRead_regs, State.setSp_regs_sp]
    rw [memRead_error h2']
    exact ⟨_, _, rfl, rfl⟩
  · rw [if_neg h1, memRead_error h1]
    exact ⟨_, _, rfl, rfl⟩

/-- What `read_r8` of (HL) and `write_r8` of (HL) do together (30_encoding.md R198). -/
theorem canWrite_afterRead : CanWrite (s.afterRead s.hl) s.hl v ↔ CanWrite s s.hl v := by
  by_cases hc : CartLoaded s
  · have : CartLoaded (s.afterRead s.hl) := by simpa [CartLoaded] using hc
    exact ⟨fun _ => Or.inl hc, fun _ => Or.inl this⟩
  by_cases h46 : s.hl = 0xFF46
  · refine CanWrite.congr (State.afterRead_params s s.hl) (State.afterRead_cartLoaded s s.hl) ?_
    rw [State.afterRead_bootActive, h46]
    simp
  · have hc' : ¬ CartLoaded (s.afterRead s.hl) := by simpa [CartLoaded] using hc
    simp only [CanWrite, hc, hc', false_or, h46, false_implies, and_true, State.afterRead_params]

end Sys2Proof.Machine
end

