-- ==== Sys2Proof/Laws/Exec.lean ====
section
/-! SUPPORT. What one instruction can do to the state, once: a property that the register updates, the run-state changes and the
bus accesses keep is kept by every instruction, and every instruction answers a next state. -/

namespace Sys2Proof.Machine

variable {P : State → Prop} {s : State}

/-- An error an instruction or a bus access can raise in the state: `MBCNotLoaded` with no cartridge loaded alone (R88). -/
def ErrorFits (s : State) (e : Fault) : Prop :=
  match e with
  | .mbcNotLoaded _ => s.cart.isSome = false
  | .illegalOpcode _ _ => True

/-- Every change an instruction makes, but for the interrupt masks', keeps the property. F keeps its low nibble or takes 0 there. -/
structure Closed (P : State → Prop) : Prop where
  regs : ∀ s r, P s → r.f = s.regs.f ∨ r.f &&& 0x0F = 0 → P { s with regs := r }
  halted : ∀ s, P s → P { s with runState := .halted }
  armed : ∀ s, P s → s.params.haltBug = true → P { s with haltBugArmed := true }
  raised : ∀ s e, P s → ErrorFits s e → P (s.raise e)
  cost : ∀ s n, P s → P { s with cycles := n }
  read : ∀ s a, P s → P (s.afterRead a)
  write : ∀ s a v, P s → P (s.afterWrite a v)

/-- Writing the interrupt masks keeps the property. -/
def MasksKeep (P : State → Prop) : Prop := ∀ s ime imePending, P s → P { s with ime := ime, imePending := imePending }

/-- The answer is a next state with the property. -/
def NextKeeps (P : State → Prop) (x : Host.Outcome State Fault Refusal) : Prop := ∃ t, x = .next t ∧ P t

/-- The access leaves a state with the property, and an error it raises fits that state. -/
structure Good {α : Type} (P : State → Prop) (x : Access α) : Prop where
  state : P x.state
  fits : ∀ e t, x = .error e t → ErrorFits t e

/-! ### Accesses -/

theorem Good.ok {α : Type} {v : α} (h : P s) : Good P (.ok v s) := ⟨h, fun _ _ hx => nomatch hx⟩

theorem Good.bind {α β : Type} {x : Access α} {f : α → State → Access β} (hx : Good P x)
    (hf : ∀ v t, P t → Good P (f v t)) : Good P (x.bind f) := by
  cases x with
  | ok v t => exact hf v t hx.state
  | error e t =>
    refine ⟨hx.state, fun e' t' he => ?_⟩
    cases he
    exact hx.fits e t rfl

theorem memRead_closed (hc : Closed P) (a : Word) (h : P s) : Good P (memRead s a) := by
  by_cases hr : CanRead s a
  · rw [memRead_ok hr]
    exact Good.ok (hc.read s a h)
  · rw [memRead_error hr]
    refine ⟨hc.read s a h, fun e t he => ?_⟩
    cases he
    have hn : s.cart.isSome = false := by simpa using fun hl => hr (Or.inl hl)
    simpa [ErrorFits] using hn

theorem memWrite_closed (hc : Closed P) (a : Word) (v : Byte) (h : P s) : Good P (memWrite s a v) := by
  refine ⟨hc.write s a v h, fun e t he => ?_⟩
  by_cases hw : CanWrite s a v
  · rw [memWrite_ok hw] at he
    exact nomatch he
  · rw [memWrite_error hw] at he
    cases he
    have hn : s.cart.isSome = false := by simpa using fun hl => hw (Or.inl hl)
    simpa [ErrorFits] using hn

theorem finish_closed (hc : Closed P) {cost : Nat} {x : Access Unit} (h : Good P x) : NextKeeps P (finish cost x) := by
  cases x with
  | ok u t => exact ⟨_, rfl, hc.cost t cost h.state⟩
  | error e t => exact ⟨_, rfl, hc.raised t e h.state (h.fits e t rfl)⟩

theorem finishOk_closed (hc : Closed P) {cost : Nat} (h : P s) : NextKeeps P (finish cost (.ok () s)) := finish_closed hc (Good.ok h)

/-! ### Register updates -/

theorem setReg_closed (hc : Closed P) (r : Reg8) (v : Byte) (h : P s) : P (s.setReg r v) := by
  cases r <;> exact hc.regs s _ h (Or.inl rfl)

theorem setFlags_closed (hc : Closed P) (x : Flags) (h : P s) : P (s.setFlags x) := hc.regs s _ h (Or.inr (flagsToByte_low x))

theorem setPc_closed (hc : Closed P) (v : Word) (h : P s) : P (s.setPc v) := hc.regs s _ h (Or.inl rfl)

theorem setSp_closed (hc : Closed P) (v : Word) (h : P s) : P (s.setSp v) := hc.regs s _ h (Or.inl rfl)

theorem setHl_closed (hc : Closed P) (v : Word) (h : P s) : P (s.setHl v) := hc.regs s _ h (Or.inl rfl)

theorem setPair_closed (hc : Closed P) (r : Pair) (v : Word) (h : P s) : P (s.setPair r v) := by
  cases r <;> exact hc.regs s _ h (Or.inl rfl)

theorem setStackPair_closed (hc : Closed P) (r : StackPair) (v : Word) (h : P s) : P (s.setStackPair r v) := by
  have hm : ∀ x : Byte, x &&& 0xF0 &&& 0x0F = 0 := by decide
  cases r
  case af => exact hc.regs s _ h (Or.inr (hm _))
  all_goals exact hc.regs s _ h (Or.inl rfl)

theorem stepMemPair_closed (hc : Closed P) (p : MemPair) (h : P s) : P (s.stepMemPair p) := by
  cases p
  · exact h
  · exact h
  · exact setHl_closed hc _ h
  · exact setHl_closed hc _ h

theorem aluStep_closed (hc : Closed P) (op : AluOp) (v : Byte) (h : P s) : P (s.aluStep op v) :=
  setFlags_closed hc _ (setReg_closed hc _ _ h)

theorem readR8_closed (hc : Closed P) (k : R8) (h : P s) : Good P (readR8 s k) := by
  cases k with
  | reg r => exact Good.ok h
  | atHL => exact memRead_closed hc _ h

theorem writeR8_closed (hc : Closed P) (k : R8) (v : Byte) (h : P s) : Good P (writeR8 s k v) := by
  cases k with
  | reg r => exact Good.ok (setReg_closed hc _ _ h)
  | atHL => exact memWrite_closed hc _ _ h

/-! ### Push, pop, fetch -/

theorem push16_closed (hc : Closed P) (v : Word) (h : P s) : Good P (push16 s v) :=
  Good.bind (memWrite_closed hc _ _ (setSp_closed hc _ h))
    fun _ _ ht => memWrite_closed hc _ _ (setSp_closed hc _ ht)

theorem pop16_closed (hc : Closed P) (h : P s) : Good P (pop16 s) :=
  Good.bind (memRead_closed hc _ h) fun _ _ ht =>
    Good.bind (memRead_closed hc _ (setSp_closed hc _ ht)) fun _ _ hu => Good.ok <| setSp_closed hc _ hu

theorem fetch8_closed (hc : Closed P) (h : P s) : Good P (fetch8 s) :=
  Good.bind (memRead_closed hc _ h) fun _ _ ht => Good.ok <| setPc_closed hc _ ht

theorem returnFromInterrupt_closed (hc : Closed P) (hm : MasksKeep P) (h : P s) : Good P (returnFromInterrupt s) :=
  Good.bind (pop16_closed hc h) fun v t ht => Good.ok (hm (t.setPc v) true false (setPc_closed hc v ht))

/-! ### The shared operations of the instructions -/

theorem loadR8_closed (hc : Closed P) {d k : R8} (h : P s) : NextKeeps P (loadR8 d k s) :=
  finish_closed hc (Good.bind (readR8_closed hc k h) fun _ _ ht => writeR8_closed hc d _ ht)

theorem loadImm_closed (hc : Closed P) {d : R8} {n : Byte} (h : P s) : NextKeeps P (loadImm d n s) :=
  finish_closed hc (writeR8_closed hc d n h)

theorem loadAFrom_closed (hc : Closed P) {a : Word} {c : Nat} (h : P s) : NextKeeps P (loadAFrom a c s) :=
  finish_closed hc (Good.bind (memRead_closed hc a h) fun v _ ht => Good.ok <| setReg_closed hc .a v ht)

theorem storeAAt_closed (hc : Closed P) {a : Word} {c : Nat} (h : P s) : NextKeeps P (storeAAt a c s) :=
  finish_closed hc (memWrite_closed hc a _ h)

theorem loadAMem_closed (hc : Closed P) {p : MemPair} (h : P s) : NextKeeps P (loadAMem p s) :=
  finish_closed hc (Good.bind (memRead_closed hc _ h) fun _ _ ht =>
    Good.ok <| stepMemPair_closed hc p (setReg_closed hc _ _ ht))

theorem storeAMem_closed (hc : Closed P) {p : MemPair} (h : P s) : NextKeeps P (storeAMem p s) :=
  finish_closed hc (Good.bind (memWrite_closed hc _ _ h) fun _ _ ht => Good.ok <| stepMemPair_closed hc p ht)

theorem loadPair_closed (hc : Closed P) {r : Pair} {nn : Word} (h : P s) : NextKeeps P (loadPair r nn s) :=
  finishOk_closed hc (setPair_closed hc r nn h)

theorem storeSp_closed (hc : Closed P) {nn : Word} (h : P s) : NextKeeps P (storeSp nn s) :=
  finish_closed hc (Good.bind (memWrite_closed hc _ _ h) fun _ _ ht => memWrite_closed hc _ _ ht)

theorem loadSpHl_closed (hc : Closed P) (h : P s) : NextKeeps P (loadSpHl s) :=
  finishOk_closed hc (setSp_closed hc _ h)

theorem pushPair_closed (hc : Closed P) {r : StackPair} (h : P s) : NextKeeps P (pushPair r s) :=
  finish_closed hc (push16_closed hc _ h)

theorem popPair_closed (hc : Closed P) {r : StackPair} (h : P s) : NextKeeps P (popPair r s) :=
  finish_closed hc (Good.bind (pop16_closed hc h) fun v _ ht => Good.ok <| setStackPair_closed hc r v ht)

theorem loadHlSp_closed (hc : Closed P) {e : Byte} (h : P s) : NextKeeps P (loadHlSp e s) :=
  finishOk_closed hc (setFlags_closed hc _ (setHl_closed hc _ h))

theorem aluR8_closed (hc : Closed P) {op : AluOp} {k : R8} (h : P s) : NextKeeps P (aluR8 op k s) :=
  finish_closed hc (Good.bind (readR8_closed hc k h) fun v _ ht => Good.ok <| aluStep_closed hc op v ht)

theorem aluImm_closed (hc : Closed P) {op : AluOp} {n : Byte} (h : P s) : NextKeeps P (aluImm op n s) :=
  finishOk_closed hc (aluStep_closed hc op n h)

theorem incR8_closed (hc : Closed P) {k : R8} (h : P s) : NextKeeps P (incR8 k s) :=
  finish_closed hc (Good.bind (readR8_closed hc k h) fun _ _ ht =>
    Good.bind (writeR8_closed hc k _ ht) fun _ _ hu => Good.ok <| setFlags_closed hc _ hu)

theorem decR8_closed (hc : Closed P) {k : R8} (h : P s) : NextKeeps P (decR8 k s) :=
  finish_closed hc (Good.bind (readR8_closed hc k h) fun _ _ ht =>
    Good.bind (writeR8_closed hc k _ ht) fun _ _ hu => Good.ok <| setFlags_closed hc _ hu)

theorem decimalAdjust_closed (hc : Closed P) (h : P s) : NextKeeps P (decimalAdjust s) :=
  finishOk_closed hc (setFlags_closed hc _ (setReg_closed hc _ _ h))

theorem complementA_closed (hc : Closed P) (h : P s) : NextKeeps P (complementA s) :=
  finishOk_closed hc (setFlags_closed hc _ (setReg_closed hc _ _ h))

theorem setCarry_closed (hc : Closed P) (h : P s) : NextKeeps P (setCarry s) :=
  finishOk_closed hc (setFlags_closed hc _ h)

theorem complementCarry_closed (hc : Closed P) (h : P s) : NextKeeps P (complementCarry s) :=
  finishOk_closed hc (setFlags_closed hc _ h)

theorem addHl_closed (hc : Closed P) {r : Pair} (h : P s) : NextKeeps P (addHl r s) :=
  finishOk_closed hc (setFlags_closed hc _ (setHl_closed hc _ h))

theorem incPair_closed (hc : Closed P) {r : Pair} (h : P s) : NextKeeps P (incPair r s) :=
  finishOk_closed hc (setPair_closed hc r _ h)

theorem decPair_closed (hc : Closed P) {r : Pair} (h : P s) : NextKeeps P (decPair r s) :=
  finishOk_closed hc (setPair_closed hc r _ h)

theorem addSp_closed (hc : Closed P) {e : Byte} (h : P s) : NextKeeps P (addSp e s) :=
  finishOk_closed hc (setFlags_closed hc _ (setSp_closed hc _ h))

theorem rotateA_closed (hc : Closed P) {op : RotOp} (h : P s) : NextKeeps P (rotateA op s) :=
  finishOk_closed hc (setFlags_closed hc _ (setReg_closed hc _ _ h))

theorem rotateR8_closed (hc : Closed P) {op : RotOp} {k : R8} (h : P s) : NextKeeps P (rotateR8 op k s) :=
  finish_closed hc (Good.bind (readR8_closed hc k h) fun _ _ ht =>
    Good.bind (writeR8_closed hc k _ ht) fun _ _ hu => Good.ok <| setFlags_closed hc _ hu)

theorem bitR8_closed (hc : Closed P) {b : BitVec 3} {k : R8} (h : P s) : NextKeeps P (bitR8 b k s) :=
  finish_closed hc (Good.bind (readR8_closed hc k h) fun _ _ ht => Good.ok <| setFlags_closed hc _ ht)

theorem resR8_closed (hc : Closed P) {b : BitVec 3} {k : R8} (h : P s) : NextKeeps P (resR8 b k s) :=
  finish_closed hc (Good.bind (readR8_closed hc k h) fun _ _ ht => writeR8_closed hc k _ ht)

theorem setR8_closed (hc : Closed P) {b : BitVec 3} {k : R8} (h : P s) : NextKeeps P (setR8 b k s) :=
  finish_closed hc (Good.bind (readR8_closed hc k h) fun _ _ ht => writeR8_closed hc k _ ht)

theorem extended_closed (hc : Closed P) (op2 : Byte) (h : P s) : NextKeeps P (extended op2 s) := by
  unfold extended
  simp only
  split
  · exact rotateR8_closed hc h
  · split
    · exact bitR8_closed hc h
    · split
      · exact resR8_closed hc h
      · exact setR8_closed hc h

theorem prefixed_closed (hc : Closed P) (h : P s) : NextKeeps P (prefixed s) := by
  have hf := fetch8_closed hc h
  unfold prefixed
  cases hx : fetch8 s with
  | ok op2 t =>
    rw [hx] at hf
    exact extended_closed hc op2 hf.state
  | error e t =>
    rw [hx] at hf
    exact ⟨_, rfl, hc.raised t e hf.state (hf.fits e t rfl)⟩

theorem jumpTo_closed (hc : Closed P) {nn : Word} (h : P s) : NextKeeps P (jumpTo nn s) :=
  finishOk_closed hc (setPc_closed hc nn h)

theorem jumpIf_closed (hc : Closed P) {cc : Cond} {nn : Word} (h : P s) : NextKeeps P (jumpIf cc nn s) := by
  unfold jumpIf
  split
  · exact finishOk_closed hc (setPc_closed hc nn h)
  · exact finishOk_closed hc h

theorem jumpHl_closed (hc : Closed P) (h : P s) : NextKeeps P (jumpHl s) :=
  finishOk_closed hc (setPc_closed hc _ h)

theorem jumpRel_closed (hc : Closed P) {e : Byte} (h : P s) : NextKeeps P (jumpRel e s) :=
  finishOk_closed hc (setPc_closed hc _ h)

theorem jumpRelIf_closed (hc : Closed P) {cc : Cond} {e : Byte} (h : P s) : NextKeeps P (jumpRelIf cc e s) := by
  unfold jumpRelIf
  split
  · exact finishOk_closed hc (setPc_closed hc _ h)
  · exact finishOk_closed hc h

theorem callBody_closed (hc : Closed P) (target : Word) (h : P s) : Good P (callBody target s) :=
  Good.bind (push16_closed hc _ h) fun _ _ ht => Good.ok <| setPc_closed hc target ht

theorem retBody_closed (hc : Closed P) (h : P s) : Good P (retBody s) :=
  Good.bind (pop16_closed hc h) fun v _ ht => Good.ok <| setPc_closed hc v ht

theorem call_closed (hc : Closed P) {nn : Word} (h : P s) : NextKeeps P (call nn s) :=
  finish_closed hc (callBody_closed hc nn h)

theorem callIf_closed (hc : Closed P) {cc : Cond} {nn : Word} (h : P s) : NextKeeps P (callIf cc nn s) := by
  unfold callIf
  split
  · exact finish_closed hc (callBody_closed hc nn h)
  · exact finishOk_closed hc h

theorem ret_closed (hc : Closed P) (h : P s) : NextKeeps P (ret s) := finish_closed hc (retBody_closed hc h)

theorem retIf_closed (hc : Closed P) {cc : Cond} (h : P s) : NextKeeps P (retIf cc s) := by
  unfold retIf
  split
  · exact finish_closed hc (retBody_closed hc h)
  · exact finishOk_closed hc h

theorem reti_closed (hc : Closed P) (hm : MasksKeep P) (h : P s) : NextKeeps P (reti s) :=
  finish_closed hc (returnFromInterrupt_closed hc hm h)

theorem restart_closed (hc : Closed P) {t : BitVec 3} (h : P s) : NextKeeps P (restart t s) :=
  finish_closed hc (callBody_closed hc _ h)

theorem noOperation_closed (hc : Closed P) (h : P s) : NextKeeps P (noOperation s) := finishOk_closed hc h

theorem haltCpu_closed (hc : Closed P) (h : P s) : NextKeeps P (haltCpu s) := by
  unfold haltCpu
  split
  · next hb =>
    have hp : s.params.haltBug = true := by
      simp only [Bool.and_eq_true] at hb
      exact hb.1.1
    exact finishOk_closed hc (hc.armed s h hp)
  · exact finishOk_closed hc (hc.halted s h)

theorem stopCpu_closed (hc : Closed P) (h : P s) : NextKeeps P (stopCpu s) := by
  unfold stopCpu
  split
  · exact finishOk_closed hc (hc.halted s h)
  · exact finishOk_closed hc h

theorem disableInterrupts_closed (hc : Closed P) (hm : MasksKeep P) (h : P s) : NextKeeps P (disableInterrupts s) :=
  finishOk_closed hc (hm s false false h)

theorem enableInterrupts_closed (hc : Closed P) (hm : MasksKeep P) (h : P s) : NextKeeps P (enableInterrupts s) :=
  finishOk_closed hc (hm s s.ime true h)

theorem illegalOpcode_closed (hc : Closed P) {op : Byte} (h : P s) : NextKeeps P (illegalOpcode op s) :=
  finish_closed hc ⟨h, fun e t he => by cases he; trivial⟩

/-! ### Every instruction -/

/-- Every instruction answers a next state, and it keeps what the bus accesses and the register updates keep; DI, EI and RETI, what
writing the interrupt masks keeps. -/
theorem exec_closed (hc : Closed P) (i : Instr) (hm : i = .di ∨ i = .ei ∨ i = .reti → MasksKeep P) {s : State} (h : P s) :
    NextKeeps P (exec i s) := by
  cases i with
  | nop => exact (noOperation_closed hc h : NextKeeps P (noOperation s))
  | ldBC_nn nn => exact (loadPair_closed hc h : NextKeeps P (loadPair .bc nn s))
  | ldAtBC_A => exact (storeAMem_closed hc h : NextKeeps P (storeAMem .bc s))
  | incBC => exact (incPair_closed hc h : NextKeeps P (incPair .bc s))
  | incB => exact (incR8_closed hc h : NextKeeps P (incR8 (.reg .b) s))
  | decB => exact (decR8_closed hc h : NextKeeps P (decR8 (.reg .b) s))
  | ldB_n n => exact (loadImm_closed hc h : NextKeeps P (loadImm (.reg .b) n s))
  | rlca => exact (rotateA_closed hc h : NextKeeps P (rotateA .rlc s))
  | ldAtNN_SP nn => exact (storeSp_closed hc h : NextKeeps P (storeSp nn s))
  | addHL_BC => exact (addHl_closed hc h : NextKeeps P (addHl .bc s))
  | ldA_atBC => exact (loadAMem_closed hc h : NextKeeps P (loadAMem .bc s))
  | decBC => exact (decPair_closed hc h : NextKeeps P (decPair .bc s))
  | incC => exact (incR8_closed hc h : NextKeeps P (incR8 (.reg .c) s))
  | decC => exact (decR8_closed hc h : NextKeeps P (decR8 (.reg .c) s))
  | ldC_n n => exact (loadImm_closed hc h : NextKeeps P (loadImm (.reg .c) n s))
  | rrca => exact (rotateA_closed hc h : NextKeeps P (rotateA .rrc s))
  | stop _n => exact (stopCpu_closed hc h : NextKeeps P (stopCpu s))
  | ldDE_nn nn => exact (loadPair_closed hc h : NextKeeps P (loadPair .de nn s))
  | ldAtDE_A => exact (storeAMem_closed hc h : NextKeeps P (storeAMem .de s))
  | incDE => exact (incPair_closed hc h : NextKeeps P (incPair .de s))
  | incD => exact (incR8_closed hc h : NextKeeps P (incR8 (.reg .d) s))
  | decD => exact (decR8_closed hc h : NextKeeps P (decR8 (.reg .d) s))
  | ldD_n n => exact (loadImm_closed hc h : NextKeeps P (loadImm (.reg .d) n s))
  | rla => exact (rotateA_closed hc h : NextKeeps P (rotateA .rl s))
  | jr_e e => exact (jumpRel_closed hc h : NextKeeps P (jumpRel e s))
  | addHL_DE => exact (addHl_closed hc h : NextKeeps P (addHl .de s))
  | ldA_atDE => exact (loadAMem_closed hc h : NextKeeps P (loadAMem .de s))
  | decDE => exact (decPair_closed hc h : NextKeeps P (decPair .de s))
  | incE => exact (incR8_closed hc h : NextKeeps P (incR8 (.reg .e) s))
  | decE => exact (decR8_closed hc h : NextKeeps P (decR8 (.reg .e) s))
  | ldE_n n => exact (loadImm_closed hc h : NextKeeps P (loadImm (.reg .e) n s))
  | rra => exact (rotateA_closed hc h : NextKeeps P (rotateA .rr s))
  | jrNZ_e e => exact (jumpRelIf_closed hc h : NextKeeps P (jumpRelIf .nz e s))
  | ldHL_nn nn => exact (loadPair_closed hc h : NextKeeps P (loadPair .hl nn s))
  | ldAtHLI_A => exact (storeAMem_closed hc h : NextKeeps P (storeAMem .hlInc s))
  | incHL => exact (incPair_closed hc h : NextKeeps P (incPair .hl s))
  | incH => exact (incR8_closed hc h : NextKeeps P (incR8 (.reg .h) s))
  | decH => exact (decR8_closed hc h : NextKeeps P (decR8 (.reg .h) s))
  | ldH_n n => exact (loadImm_closed hc h : NextKeeps P (loadImm (.reg .h) n s))
  | daa => exact (decimalAdjust_closed hc h : NextKeeps P (decimalAdjust s))
  | jrZ_e e => exact (jumpRelIf_closed hc h : NextKeeps P (jumpRelIf .z e s))
  | addHL_HL => exact (addHl_closed hc h : NextKeeps P (addHl .hl s))
  | ldA_atHLI => exact (loadAMem_closed hc h : NextKeeps P (loadAMem .hlInc s))
  | decHL => exact (decPair_closed hc h : NextKeeps P (decPair .hl s))
  | incL => exact (incR8_closed hc h : NextKeeps P (incR8 (.reg .l) s))
  | decL => exact (decR8_closed hc h : NextKeeps P (decR8 (.reg .l) s))
  | ldL_n n => exact (loadImm_closed hc h : NextKeeps P (loadImm (.reg .l) n s))
  | cpl => exact (complementA_closed hc h : NextKeeps P (complementA s))
  | jrNC_e e => exact (jumpRelIf_closed hc h : NextKeeps P (jumpRelIf .nc e s))
  | ldSP_nn nn => exact (loadPair_closed hc h : NextKeeps P (loadPair .sp nn s))
  | ldAtHLD_A => exact (storeAMem_closed hc h : NextKeeps P (storeAMem .hlDec s))
  | incSP => exact (incPair_closed hc h : NextKeeps P (incPair .sp s))
  | incAtHL => exact (incR8_closed hc h : NextKeeps P (incR8 .atHL s))
  | decAtHL => exact (decR8_closed hc h : NextKeeps P (decR8 .atHL s))
  | ldAtHL_n n => exact (loadImm_closed hc h : NextKeeps P (loadImm .atHL n s))
  | scf => exact (setCarry_closed hc h : NextKeeps P (setCarry s))
  | jrC_e e => exact (jumpRelIf_closed hc h : NextKeeps P (jumpRelIf .c e s))
  | addHL_SP => exact (addHl_closed hc h : NextKeeps P (addHl .sp s))
  | ldA_atHLD => exact (loadAMem_closed hc h : NextKeeps P (loadAMem .hlDec s))
  | decSP => exact (decPair_closed hc h : NextKeeps P (decPair .sp s))
  | incA => exact (incR8_closed hc h : NextKeeps P (incR8 (.reg .a) s))
  | decA => exact (decR8_closed hc h : NextKeeps P (decR8 (.reg .a) s))
  | ldA_n n => exact (loadImm_closed hc h : NextKeeps P (loadImm (.reg .a) n s))
  | ccf => exact (complementCarry_closed hc h : NextKeeps P (complementCarry s))
  | ldB_B => exact (loadR8_closed hc h : NextKeeps P (loadR8 (.reg .b) (.reg .b) s))
  | ldB_C => exact (loadR8_closed hc h : NextKeeps P (loadR8 (.reg .b) (.reg .c) s))
  | ldB_D => exact (loadR8_closed hc h : NextKeeps P (loadR8 (.reg .b) (.reg .d) s))
  | ldB_E => exact (loadR8_closed hc h : NextKeeps P (loadR8 (.reg .b) (.reg .e) s))
  | ldB_H => exact (loadR8_closed hc h : NextKeeps P (loadR8 (.reg .b) (.reg .h) s))
  | ldB_L => exact (loadR8_closed hc h : NextKeeps P (loadR8 (.reg .b) (.reg .l) s))
  | ldB_atHL => exact (loadR8_closed hc h : NextKeeps P (loadR8 (.reg .b) .atHL s))
  | ldB_A => exact (loadR8_closed hc h : NextKeeps P (loadR8 (.reg .b) (.reg .a) s))
  | ldC_B => exact (loadR8_closed hc h : NextKeeps P (loadR8 (.reg .c) (.reg .b) s))
  | ldC_C => exact (loadR8_closed hc h : NextKeeps P (loadR8 (.reg .c) (.reg .c) s))
  | ldC_D => exact (loadR8_closed hc h : NextKeeps P (loadR8 (.reg .c) (.reg .d) s))
  | ldC_E => exact (loadR8_closed hc h : NextKeeps P (loadR8 (.reg .c) (.reg .e) s))
  | ldC_H => exact (loadR8_closed hc h : NextKeeps P (loadR8 (.reg .c) (.reg .h) s))
  | ldC_L => exact (loadR8_closed hc h : NextKeeps P (loadR8 (.reg .c) (.reg .l) s))
  | ldC_atHL => exact (loadR8_closed hc h : NextKeeps P (loadR8 (.reg .c) .atHL s))
  | ldC_A => exact (loadR8_closed hc h : NextKeeps P (loadR8 (.reg .c) (.reg .a) s))
  | ldD_B => exact (loadR8_closed hc h : NextKeeps P (loadR8 (.reg .d) (.reg .b) s))
  | ldD_C => exact (loadR8_closed hc h : NextKeeps P (loadR8 (.reg .d) (.reg .c) s))
  | ldD_D => exact (loadR8_closed hc h : NextKeeps P (loadR8 (.reg .d) (.reg .d) s))
  | ldD_E => exact (loadR8_closed hc h : NextKeeps P (loadR8 (.reg .d) (.reg .e) s))
  | ldD_H => exact (loadR8_closed hc h : NextKeeps P (loadR8 (.reg .d) (.reg .h) s))
  | ldD_L => exact (loadR8_closed hc h : NextKeeps P (loadR8 (.reg .d) (.reg .l) s))
  | ldD_atHL => exact (loadR8_closed hc h : NextKeeps P (loadR8 (.reg .d) .atHL s))
  | ldD_A => exact (loadR8_closed hc h : NextKeeps P (loadR8 (.reg .d) (.reg .a) s))
  | ldE_B => exact (loadR8_closed hc h : NextKeeps P (loadR8 (.reg .e) (.reg .b) s))
  | ldE_C => exact (loadR8_closed hc h : NextKeeps P (loadR8 (.reg .e) (.reg .c) s))
  | ldE_D => exact (loadR8_closed hc h : NextKeeps P (loadR8 (.reg .e) (.reg .d) s))
  | ldE_E => exact (loadR8_closed hc h : NextKeeps P (loadR8 (.reg .e) (.reg .e) s))
  | ldE_H => exact (loadR8_closed hc h : NextKeeps P (loadR8 (.reg .e) (.reg .h) s))
  | ldE_L => exact (loadR8_closed hc h : NextKeeps P (loadR8 (.reg .e) (.reg .l) s))
  | ldE_atHL => exact (loadR8_closed hc h : NextKeeps P (loadR8 (.reg .e) .atHL s))
  | ldE_A => exact (loadR8_closed hc h : NextKeeps P (loadR8 (.reg .e) (.reg .a) s))
  | ldH_B => exact (loadR8_closed hc h : NextKeeps P (loadR8 (.reg .h) (.reg .b) s))
  | ldH_C => exact (loadR8_closed hc h : NextKeeps P (loadR8 (.reg .h) (.reg .c) s))
  | ldH_D => exact (loadR8_closed hc h : NextKeeps P (loadR8 (.reg .h) (.reg .d) s))
  | ldH_E => exact (loadR8_closed hc h : NextKeeps P (loadR8 (.reg .h) (.reg .e) s))
  | ldH_H => exact (loadR8_closed hc h : NextKeeps P (loadR8 (.reg .h) (.reg .h) s))
  | ldH_L => exact (loadR8_closed hc h : NextKeeps P (loadR8 (.reg .h) (.reg .l) s))
  | ldH_atHL => exact (loadR8_closed hc h : NextKeeps P (loadR8 (.reg .h) .atHL s))
  | ldH_A => exact (loadR8_closed hc h : NextKeeps P (loadR8 (.reg .h) (.reg .a) s))
  | ldL_B => exact (loadR8_closed hc h : NextKeeps P (loadR8 (.reg .l) (.reg .b) s))
  | ldL_C => exact (loadR8_closed hc h : NextKeeps P (loadR8 (.reg .l) (.reg .c) s))
  | ldL_D => exact (loadR8_closed hc h : NextKeeps P (loadR8 (.reg .l) (.reg .d) s))
  | ldL_E => exact (loadR8_closed hc h : NextKeeps P (loadR8 (.reg .l) (.reg .e) s))
  | ldL_H => exact (loadR8_closed hc h : NextKeeps P (loadR8 (.reg .l) (.reg .h) s))
  | ldL_L => exact (loadR8_closed hc h : NextKeeps P (loadR8 (.reg .l) (.reg .l) s))
  | ldL_atHL => exact (loadR8_closed hc h : NextKeeps P (loadR8 (.reg .l) .atHL s))
  | ldL_A => exact (loadR8_closed hc h : NextKeeps P (loadR8 (.reg .l) (.reg .a) s))
  | ldAtHL_B => exact (loadR8_closed hc h : NextKeeps P (loadR8 .atHL (.reg .b) s))
  | ldAtHL_C => exact (loadR8_closed hc h : NextKeeps P (loadR8 .atHL (.reg .c) s))
  | ldAtHL_D => exact (loadR8_closed hc h : NextKeeps P (loadR8 .atHL (.reg .d) s))
  | ldAtHL_E => exact (loadR8_closed hc h : NextKeeps P (loadR8 .atHL (.reg .e) s))
  | ldAtHL_H => exact (loadR8_closed hc h : NextKeeps P (loadR8 .atHL (.reg .h) s))
  | ldAtHL_L => exact (loadR8_closed hc h : NextKeeps P (loadR8 .atHL (.reg .l) s))
  | halt => exact (haltCpu_closed hc h : NextKeeps P (haltCpu s))
  | ldAtHL_A => exact (loadR8_closed hc h : NextKeeps P (loadR8 .atHL (.reg .a) s))
  | ldA_B => exact (loadR8_closed hc h : NextKeeps P (loadR8 (.reg .a) (.reg .b) s))
  | ldA_C => exact (loadR8_closed hc h : NextKeeps P (loadR8 (.reg .a) (.reg .c) s))
  | ldA_D => exact (loadR8_closed hc h : NextKeeps P (loadR8 (.reg .a) (.reg .d) s))
  | ldA_E => exact (loadR8_closed hc h : NextKeeps P (loadR8 (.reg .a) (.reg .e) s))
  | ldA_H => exact (loadR8_closed hc h : NextKeeps P (loadR8 (.reg .a) (.reg .h) s))
  | ldA_L => exact (loadR8_closed hc h : NextKeeps P (loadR8 (.reg .a) (.reg .l) s))
  | ldA_atHL => exact (loadR8_closed hc h : NextKeeps P (loadR8 (.reg .a) .atHL s))
  | ldA_A => exact (loadR8_closed hc h : NextKeeps P (loadR8 (.reg .a) (.reg .a) s))
  | addA_B => exact (aluR8_closed hc h : NextKeeps P (aluR8 .add (.reg .b) s))
  | addA_C => exact (aluR8_closed hc h : NextKeeps P (aluR8 .add (.reg .c) s))
  | addA_D => exact (aluR8_closed hc h : NextKeeps P (aluR8 .add (.reg .d) s))
  | addA_E => exact (aluR8_closed hc h : NextKeeps P (aluR8 .add (.reg .e) s))
  | addA_H => exact (aluR8_closed hc h : NextKeeps P (aluR8 .add (.reg .h) s))
  | addA_L => exact (aluR8_closed hc h : NextKeeps P (aluR8 .add (.reg .l) s))
  | addA_atHL => exact (aluR8_closed hc h : NextKeeps P (aluR8 .add .atHL s))
  | addA_A => exact (aluR8_closed hc h : NextKeeps P (aluR8 .add (.reg .a) s))
  | adcA_B => exact (aluR8_closed hc h : NextKeeps P (aluR8 .adc (.reg .b) s))
  | adcA_C => exact (aluR8_closed hc h : NextKeeps P (aluR8 .adc (.reg .c) s))
  | adcA_D => exact (aluR8_closed hc h : NextKeeps P (aluR8 .adc (.reg .d) s))
  | adcA_E => exact (aluR8_closed hc h : NextKeeps P (aluR8 .adc (.reg .e) s))
  | adcA_H => exact (aluR8_closed hc h : NextKeeps P (aluR8 .adc (.reg .h) s))
  | adcA_L => exact (aluR8_closed hc h : NextKeeps P (aluR8 .adc (.reg .l) s))
  | adcA_atHL => exact (aluR8_closed hc h : NextKeeps P (aluR8 .adc .atHL s))
  | adcA_A => exact (aluR8_closed hc h : NextKeeps P (aluR8 .adc (.reg .a) s))
  | subB => exact (aluR8_closed hc h : NextKeeps P (aluR8 .sub (.reg .b) s))
  | subC => exact (aluR8_closed hc h : NextKeeps P (aluR8 .sub (.reg .c) s))
  | subD => exact (aluR8_closed hc h : NextKeeps P (aluR8 .sub (.reg .d) s))
  | subE => exact (aluR8_closed hc h : NextKeeps P (aluR8 .sub (.reg .e) s))
  | subH => exact (aluR8_closed hc h : NextKeeps P (aluR8 .sub (.reg .h) s))
  | subL => exact (aluR8_closed hc h : NextKeeps P (aluR8 .sub (.reg .l) s))
  | subAtHL => exact (aluR8_closed hc h : NextKeeps P (aluR8 .sub .atHL s))
  | subA => exact (aluR8_closed hc h : NextKeeps P (aluR8 .sub (.reg .a) s))
  | sbcA_B => exact (aluR8_closed hc h : NextKeeps P (aluR8 .sbc (.reg .b) s))
  | sbcA_C => exact (aluR8_closed hc h : NextKeeps P (aluR8 .sbc (.reg .c) s))
  | sbcA_D => exact (aluR8_closed hc h : NextKeeps P (aluR8 .sbc (.reg .d) s))
  | sbcA_E => exact (aluR8_closed hc h : NextKeeps P (aluR8 .sbc (.reg .e) s))
  | sbcA_H => exact (aluR8_closed hc h : NextKeeps P (aluR8 .sbc (.reg .h) s))
  | sbcA_L => exact (aluR8_closed hc h : NextKeeps P (aluR8 .sbc (.reg .l) s))
  | sbcA_atHL => exact (aluR8_closed hc h : NextKeeps P (aluR8 .sbc .atHL s))
  | sbcA_A => exact (aluR8_closed hc h : NextKeeps P (aluR8 .sbc (.reg .a) s))
  | andB => exact (aluR8_closed hc h : NextKeeps P (aluR8 .and (.reg .b) s))
  | andC => exact (aluR8_closed hc h : NextKeeps P (aluR8 .and (.reg .c) s))
  | andD => exact (aluR8_closed hc h : NextKeeps P (aluR8 .and (.reg .d) s))
  | andE => exact (aluR8_closed hc h : NextKeeps P (aluR8 .and (.reg .e) s))
  | andH => exact (aluR8_closed hc h : NextKeeps P (aluR8 .and (.reg .h) s))
  | andL => exact (aluR8_closed hc h : NextKeeps P (aluR8 .and (.reg .l) s))
  | andAtHL => exact (aluR8_closed hc h : NextKeeps P (aluR8 .and .atHL s))
  | andA => exact (aluR8_closed hc h : NextKeeps P (aluR8 .and (.reg .a) s))
  | xorB => exact (aluR8_closed hc h : NextKeeps P (aluR8 .xor (.reg .b) s))
  | xorC => exact (aluR8_closed hc h : NextKeeps P (aluR8 .xor (.reg .c) s))
  | xorD => exact (aluR8_closed hc h : NextKeeps P (aluR8 .xor (.reg .d) s))
  | xorE => exact (aluR8_closed hc h : NextKeeps P (aluR8 .xor (.reg .e) s))
  | xorH => exact (aluR8_closed hc h : NextKeeps P (aluR8 .xor (.reg .h) s))
  | xorL => exact (aluR8_closed hc h : NextKeeps P (aluR8 .xor (.reg .l) s))
  | xorAtHL => exact (aluR8_closed hc h : NextKeeps P (aluR8 .xor .atHL s))
  | xorA => exact (aluR8_closed hc h : NextKeeps P (aluR8 .xor (.reg .a) s))
  | orB => exact (aluR8_closed hc h : NextKeeps P (aluR8 .or (.reg .b) s))
  | orC => exact (aluR8_closed hc h : NextKeeps P (aluR8 .or (.reg .c) s))
  | orD => exact (aluR8_closed hc h : NextKeeps P (aluR8 .or (.reg .d) s))
  | orE => exact (aluR8_closed hc h : NextKeeps P (aluR8 .or (.reg .e) s))
  | orH => exact (aluR8_closed hc h : NextKeeps P (aluR8 .or (.reg .h) s))
  | orL => exact (aluR8_closed hc h : NextKeeps P (aluR8 .or (.reg .l) s))
  | orAtHL => exact (aluR8_closed hc h : NextKeeps P (aluR8 .or .atHL s))
  | orA => exact (aluR8_closed hc h : NextKeeps P (aluR8 .or (.reg .a) s))
  | cpB => exact (aluR8_closed hc h : NextKeeps P (aluR8 .cp (.reg .b) s))
  | cpC => exact (aluR8_closed hc h : NextKeeps P (aluR8 .cp (.reg .c) s))
  | cpD => exact (aluR8_closed hc h : NextKeeps P (aluR8 .cp (.reg .d) s))
  | cpE => exact (aluR8_closed hc h : NextKeeps P (aluR8 .cp (.reg .e) s))
  | cpH => exact (aluR8_closed hc h : NextKeeps P (aluR8 .cp (.reg .h) s))
  | cpL => exact (aluR8_closed hc h : NextKeeps P (aluR8 .cp (.reg .l) s))
  | cpAtHL => exact (aluR8_closed hc h : NextKeeps P (aluR8 .cp .atHL s))
  | cpA => exact (aluR8_closed hc h : NextKeeps P (aluR8 .cp (.reg .a) s))
  | retNZ => exact (retIf_closed hc h : NextKeeps P (retIf .nz s))
  | popBC => exact (popPair_closed hc h : NextKeeps P (popPair .bc s))
  | jpNZ_nn nn => exact (jumpIf_closed hc h : NextKeeps P (jumpIf .nz nn s))
  | jp_nn nn => exact (jumpTo_closed hc h : NextKeeps P (jumpTo nn s))
  | callNZ_nn nn => exact (callIf_closed hc h : NextKeeps P (callIf .nz nn s))
  | pushBC => exact (pushPair_closed hc h : NextKeeps P (pushPair .bc s))
  | addA_n n => exact (aluImm_closed hc h : NextKeeps P (aluImm .add n s))
  | rst00 => exact (restart_closed hc h : NextKeeps P (restart 0 s))
  | retZ => exact (retIf_closed hc h : NextKeeps P (retIf .z s))
  | ret => exact (ret_closed hc h : NextKeeps P (ret s))
  | jpZ_nn nn => exact (jumpIf_closed hc h : NextKeeps P (jumpIf .z nn s))
  | prefixCB => exact (prefixed_closed hc h : NextKeeps P (prefixed s))
  | callZ_nn nn => exact (callIf_closed hc h : NextKeeps P (callIf .z nn s))
  | call_nn nn => exact (call_closed hc h : NextKeeps P (call nn s))
  | adcA_n n => exact (aluImm_closed hc h : NextKeeps P (aluImm .adc n s))
  | rst08 => exact (restart_closed hc h : NextKeeps P (restart 1 s))
  | retNC => exact (retIf_closed hc h : NextKeeps P (retIf .nc s))
  | popDE => exact (popPair_closed hc h : NextKeeps P (popPair .de s))
  | jpNC_nn nn => exact (jumpIf_closed hc h : NextKeeps P (jumpIf .nc nn s))
  | illegalD3 => exact (illegalOpcode_closed hc h : NextKeeps P (illegalOpcode 0xD3 s))
  | callNC_nn nn => exact (callIf_closed hc h : NextKeeps P (callIf .nc nn s))
  | pushDE => exact (pushPair_closed hc h : NextKeeps P (pushPair .de s))
  | sub_n n => exact (aluImm_closed hc h : NextKeeps P (aluImm .sub n s))
  | rst10 => exact (restart_closed hc h : NextKeeps P (restart 2 s))
  | retC => exact (retIf_closed hc h : NextKeeps P (retIf .c s))
  | reti => exact (reti_closed hc (hm (by simp)) h : NextKeeps P (reti s))
  | jpC_nn nn => exact (jumpIf_closed hc h : NextKeeps P (jumpIf .c nn s))
  | illegalDB => exact (illegalOpcode_closed hc h : NextKeeps P (illegalOpcode 0xDB s))
  | callC_nn nn => exact (callIf_closed hc h : NextKeeps P (callIf .c nn s))
  | illegalDD => exact (illegalOpcode_closed hc h : NextKeeps P (illegalOpcode 0xDD s))
  | sbcA_n n => exact (aluImm_closed hc h : NextKeeps P (aluImm .sbc n s))
  | rst18 => exact (restart_closed hc h : NextKeeps P (restart 3 s))
  | ldhAtN_A n => exact (storeAAt_closed hc h : NextKeeps P (storeAAt (highPage n) 12 s))
  | popHL => exact (popPair_closed hc h : NextKeeps P (popPair .hl s))
  | ldhAtC_A => exact (storeAAt_closed hc h : NextKeeps P (storeAAt (highPage s.regs.c) 8 s))
  | illegalE3 => exact (illegalOpcode_closed hc h : NextKeeps P (illegalOpcode 0xE3 s))
  | illegalE4 => exact (illegalOpcode_closed hc h : NextKeeps P (illegalOpcode 0xE4 s))
  | pushHL => exact (pushPair_closed hc h : NextKeeps P (pushPair .hl s))
  | and_n n => exact (aluImm_closed hc h : NextKeeps P (aluImm .and n s))
  | rst20 => exact (restart_closed hc h : NextKeeps P (restart 4 s))
  | addSP_e e => exact (addSp_closed hc h : NextKeeps P (addSp e s))
  | jpHL => exact (jumpHl_closed hc h : NextKeeps P (jumpHl s))
  | ldAtNN_A nn => exact (storeAAt_closed hc h : NextKeeps P (storeAAt nn 16 s))
  | illegalEB => exact (illegalOpcode_closed hc h : NextKeeps P (illegalOpcode 0xEB s))
  | illegalEC => exact (illegalOpcode_closed hc h : NextKeeps P (illegalOpcode 0xEC s))
  | illegalED => exact (illegalOpcode_closed hc h : NextKeeps P (illegalOpcode 0xED s))
  | xor_n n => exact (aluImm_closed hc h : NextKeeps P (aluImm .xor n s))
  | rst28 => exact (restart_closed hc h : NextKeeps P (restart 5 s))
  | ldhA_atN n => exact (loadAFrom_closed hc h : NextKeeps P (loadAFrom (highPage n) 12 s))
  | popAF => exact (popPair_closed hc h : NextKeeps P (popPair .af s))
  | ldhA_atC => exact (loadAFrom_closed hc h : NextKeeps P (loadAFrom (highPage s.regs.c) 8 s))
  | di => exact (disableInterrupts_closed hc (hm (by simp)) h : NextKeeps P (disableInterrupts s))
  | illegalF4 => exact (illegalOpcode_closed hc h : NextKeeps P (illegalOpcode 0xF4 s))
  | pushAF => exact (pushPair_closed hc h : NextKeeps P (pushPair .af s))
  | or_n n => exact (aluImm_closed hc h : NextKeeps P (aluImm .or n s))
  | rst30 => exact (restart_closed hc h : NextKeeps P (restart 6 s))
  | ldHL_SPe e => exact (loadHlSp_closed hc h : NextKeeps P (loadHlSp e s))
  | ldSP_HL => exact (loadSpHl_closed hc h : NextKeeps P (loadSpHl s))
  | ldA_atNN nn => exact (loadAFrom_closed hc h : NextKeeps P (loadAFrom nn 16 s))
  | ei => exact (enableInterrupts_closed hc (hm (by simp)) h : NextKeeps P (enableInterrupts s))
  | illegalFC => exact (illegalOpcode_closed hc h : NextKeeps P (illegalOpcode 0xFC s))
  | illegalFD => exact (illegalOpcode_closed hc h : NextKeeps P (illegalOpcode 0xFD s))
  | cp_n n => exact (aluImm_closed hc h : NextKeeps P (aluImm .cp n s))
  | rst38 => exact (restart_closed hc h : NextKeeps P (restart 7 s))
  | rlcB => exact (rotateR8_closed hc h : NextKeeps P (rotateR8 .rlc (.reg .b) s))
  | rlcC => exact (rotateR8_closed hc h : NextKeeps P (rotateR8 .rlc (.reg .c) s))
  | rlcD => exact (rotateR8_closed hc h : NextKeeps P (rotateR8 .rlc (.reg .d) s))
  | rlcE => exact (rotateR8_closed hc h : NextKeeps P (rotateR8 .rlc (.reg .e) s))
  | rlcH => exact (rotateR8_closed hc h : NextKeeps P (rotateR8 .rlc (.reg .h) s))
  | rlcL => exact (rotateR8_closed hc h : NextKeeps P (rotateR8 .rlc (.reg .l) s))
  | rlcAtHL => exact (rotateR8_closed hc h : NextKeeps P (rotateR8 .rlc .atHL s))
  | rlcA => exact (rotateR8_closed hc h : NextKeeps P (rotateR8 .rlc (.reg .a) s))
  | rrcB => exact (rotateR8_closed hc h : NextKeeps P (rotateR8 .rrc (.reg .b) s))
  | rrcC => exact (rotateR8_closed hc h : NextKeeps P (rotateR8 .rrc (.reg .c) s))
  | rrcD => exact (rotateR8_closed hc h : NextKeeps P (rotateR8 .rrc (.reg .d) s))
  | rrcE => exact (rotateR8_closed hc h : NextKeeps P (rotateR8 .rrc (.reg .e) s))
  | rrcH => exact (rotateR8_closed hc h : NextKeeps P (rotateR8 .rrc (.reg .h) s))
  | rrcL => exact (rotateR8_closed hc h : NextKeeps P (rotateR8 .rrc (.reg .l) s))
  | rrcAtHL => exact (rotateR8_closed hc h : NextKeeps P (rotateR8 .rrc .atHL s))
  | rrcA => exact (rotateR8_closed hc h : NextKeeps P (rotateR8 .rrc (.reg .a) s))
  | rlB => exact (rotateR8_closed hc h : NextKeeps P (rotateR8 .rl (.reg .b) s))
  | rlC => exact (rotateR8_closed hc h : NextKeeps P (rotateR8 .rl (.reg .c) s))
  | rlD => exact (rotateR8_closed hc h : NextKeeps P (rotateR8 .rl (.reg .d) s))
  | rlE => exact (rotateR8_closed hc h : NextKeeps P (rotateR8 .rl (.reg .e) s))
  | rlH => exact (rotateR8_closed hc h : NextKeeps P (rotateR8 .rl (.reg .h) s))
  | rlL => exact (rotateR8_closed hc h : NextKeeps P (rotateR8 .rl (.reg .l) s))
  | rlAtHL => exact (rotateR8_closed hc h : NextKeeps P (rotateR8 .rl .atHL s))
  | rlA => exact (rotateR8_closed hc h : NextKeeps P (rotateR8 .rl (.reg .a) s))
  | rrB => exact (rotateR8_closed hc h : NextKeeps P (rotateR8 .rr (.reg .b) s))
  | rrC => exact (rotateR8_closed hc h : NextKeeps P (rotateR8 .rr (.reg .c) s))
  | rrD => exact (rotateR8_closed hc h : NextKeeps P (rotateR8 .rr (.reg .d) s))
  | rrE => exact (rotateR8_closed hc h : NextKeeps P (rotateR8 .rr (.reg .e) s))
  | rrH => exact (rotateR8_closed hc h : NextKeeps P (rotateR8 .rr (.reg .h) s))
  | rrL => exact (rotateR8_closed hc h : NextKeeps P (rotateR8 .rr (.reg .l) s))
  | rrAtHL => exact (rotateR8_closed hc h : NextKeeps P (rotateR8 .rr .atHL s))
  | rrA => exact (rotateR8_closed hc h : NextKeeps P (rotateR8 .rr (.reg .a) s))
  | slaB => exact (rotateR8_closed hc h : NextKeeps P (rotateR8 .sla (.reg .b) s))
  | slaC => exact (rotateR8_closed hc h : NextKeeps P (rotateR8 .sla (.reg .c) s))
  | slaD => exact (rotateR8_closed hc h : NextKeeps P (rotateR8 .sla (.reg .d) s))
  | slaE => exact (rotateR8_closed hc h : NextKeeps P (rotateR8 .sla (.reg .e) s))
  | slaH => exact (rotateR8_closed hc h : NextKeeps P (rotateR8 .sla (.reg .h) s))
  | slaL => exact (rotateR8_closed hc h : NextKeeps P (rotateR8 .sla (.reg .l) s))
  | slaAtHL => exact (rotateR8_closed hc h : NextKeeps P (rotateR8 .sla .atHL s))
  | slaA => exact (rotateR8_closed hc h : NextKeeps P (rotateR8 .sla (.reg .a) s))
  | sraB => exact (rotateR8_closed hc h : NextKeeps P (rotateR8 .sra (.reg .b) s))
  | sraC => exact (rotateR8_closed hc h : NextKeeps P (rotateR8 .sra (.reg .c) s))
  | sraD => exact (rotateR8_closed hc h : NextKeeps P (rotateR8 .sra (.reg .d) s))
  | sraE => exact (rotateR8_closed hc h : NextKeeps P (rotateR8 .sra (.reg .e) s))
  | sraH => exact (rotateR8_closed hc h : NextKeeps P (rotateR8 .sra (.reg .h) s))
  | sraL => exact (rotateR8_closed hc h : NextKeeps P (rotateR8 .sra (.reg .l) s))
  | sraAtHL => exact (rotateR8_closed hc h : NextKeeps P (rotateR8 .sra .atHL s))
  | sraA => exact (rotateR8_closed hc h : NextKeeps P (rotateR8 .sra (.reg .a) s))
  | swapB => exact (rotateR8_closed hc h : NextKeeps P (rotateR8 .swap (.reg .b) s))
  | swapC => exact (rotateR8_closed hc h : NextKeeps P (rotateR8 .swap (.reg .c) s))
  | swapD => exact (rotateR8_closed hc h : NextKeeps P (rotateR8 .swap (.reg .d) s))
  | swapE => exact (rotateR8_closed hc h : NextKeeps P (rotateR8 .swap (.reg .e) s))
  | swapH => exact (rotateR8_closed hc h : NextKeeps P (rotateR8 .swap (.reg .h) s))
  | swapL => exact (rotateR8_closed hc h : NextKeeps P (rotateR8 .swap (.reg .l) s))
  | swapAtHL => exact (rotateR8_closed hc h : NextKeeps P (rotateR8 .swap .atHL s))
  | swapA => exact (rotateR8_closed hc h : NextKeeps P (rotateR8 .swap (.reg .a) s))
  | srlB => exact (rotateR8_closed hc h : NextKeeps P (rotateR8 .srl (.reg .b) s))
  | srlC => exact (rotateR8_closed hc h : NextKeeps P (rotateR8 .srl (.reg .c) s))
  | srlD => exact (rotateR8_closed hc h : NextKeeps P (rotateR8 .srl (.reg .d) s))
  | srlE => exact (rotateR8_closed hc h : NextKeeps P (rotateR8 .srl (.reg .e) s))
  | srlH => exact (rotateR8_closed hc h : NextKeeps P (rotateR8 .srl (.reg .h) s))
  | srlL => exact (rotateR8_closed hc h : NextKeeps P (rotateR8 .srl (.reg .l) s))
  | srlAtHL => exact (rotateR8_closed hc h : NextKeeps P (rotateR8 .srl .atHL s))
  | srlA => exact (rotateR8_closed hc h : NextKeeps P (rotateR8 .srl (.reg .a) s))
  | bit0_B => exact (bitR8_closed hc h : NextKeeps P (bitR8 0 (.reg .b) s))
  | bit0_C => exact (bitR8_closed hc h : NextKeeps P (bitR8 0 (.reg .c) s))
  | bit0_D => exact (bitR8_closed hc h : NextKeeps P (bitR8 0 (.reg .d) s))
  | bit0_E => exact (bitR8_closed hc h : NextKeeps P (bitR8 0 (.reg .e) s))
  | bit0_H => exact (bitR8_closed hc h : NextKeeps P (bitR8 0 (.reg .h) s))
  | bit0_L => exact (bitR8_closed hc h : NextKeeps P (bitR8 0 (.reg .l) s))
  | bit0_atHL => exact (bitR8_closed hc h : NextKeeps P (bitR8 0 .atHL s))
  | bit0_A => exact (bitR8_closed hc h : NextKeeps P (bitR8 0 (.reg .a) s))
  | bit1_B => exact (bitR8_closed hc h : NextKeeps P (bitR8 1 (.reg .b) s))
  | bit1_C => exact (bitR8_closed hc h : NextKeeps P (bitR8 1 (.reg .c) s))
  | bit1_D => exact (bitR8_closed hc h : NextKeeps P (bitR8 1 (.reg .d) s))
  | bit1_E => exact (bitR8_closed hc h : NextKeeps P (bitR8 1 (.reg .e) s))
  | bit1_H => exact (bitR8_closed hc h : NextKeeps P (bitR8 1 (.reg .h) s))
  | bit1_L => exact (bitR8_closed hc h : NextKeeps P (bitR8 1 (.reg .l) s))
  | bit1_atHL => exact (bitR8_closed hc h : NextKeeps P (bitR8 1 .atHL s))
  | bit1_A => exact (bitR8_closed hc h : NextKeeps P (bitR8 1 (.reg .a) s))
  | bit2_B => exact (bitR8_closed hc h : NextKeeps P (bitR8 2 (.reg .b) s))
  | bit2_C => exact (bitR8_closed hc h : NextKeeps P (bitR8 2 (.reg .c) s))
  | bit2_D => exact (bitR8_closed hc h : NextKeeps P (bitR8 2 (.reg .d) s))
  | bit2_E => exact (bitR8_closed hc h : NextKeeps P (bitR8 2 (.reg .e) s))
  | bit2_H => exact (bitR8_closed hc h : NextKeeps P (bitR8 2 (.reg .h) s))
  | bit2_L => exact (bitR8_closed hc h : NextKeeps P (bitR8 2 (.reg .l) s))
  | bit2_atHL => exact (bitR8_closed hc h : NextKeeps P (bitR8 2 .atHL s))
  | bit2_A => exact (bitR8_closed hc h : NextKeeps P (bitR8 2 (.reg .a) s))
  | bit3_B => exact (bitR8_closed hc h : NextKeeps P (bitR8 3 (.reg .b) s))
  | bit3_C => exact (bitR8_closed hc h : NextKeeps P (bitR8 3 (.reg .c) s))
  | bit3_D => exact (bitR8_closed hc h : NextKeeps P (bitR8 3 (.reg .d) s))
  | bit3_E => exact (bitR8_closed hc h : NextKeeps P (bitR8 3 (.reg .e) s))
  | bit3_H => exact (bitR8_closed hc h : NextKeeps P (bitR8 3 (.reg .h) s))
  | bit3_L => exact (bitR8_closed hc h : NextKeeps P (bitR8 3 (.reg .l) s))
  | bit3_atHL => exact (bitR8_closed hc h : NextKeeps P (bitR8 3 .atHL s))
  | bit3_A => exact (bitR8_closed hc h : NextKeeps P (bitR8 3 (.reg .a) s))
  | bit4_B => exact (bitR8_closed hc h : NextKeeps P (bitR8 4 (.reg .b) s))
  | bit4_C => exact (bitR8_closed hc h : NextKeeps P (bitR8 4 (.reg .c) s))
  | bit4_D => exact (bitR8_closed hc h : NextKeeps P (bitR8 4 (.reg .d) s))
  | bit4_E => exact (bitR8_closed hc h : NextKeeps P (bitR8 4 (.reg .e) s))
  | bit4_H => exact (bitR8_closed hc h : NextKeeps P (bitR8 4 (.reg .h) s))
  | bit4_L => exact (bitR8_closed hc h : NextKeeps P (bitR8 4 (.reg .l) s))
  | bit4_atHL => exact (bitR8_closed hc h : NextKeeps P (bitR8 4 .atHL s))
  | bit4_A => exact (bitR8_closed hc h : NextKeeps P (bitR8 4 (.reg .a) s))
  | bit5_B => exact (bitR8_closed hc h : NextKeeps P (bitR8 5 (.reg .b) s))
  | bit5_C => exact (bitR8_closed hc h : NextKeeps P (bitR8 5 (.reg .c) s))
  | bit5_D => exact (bitR8_closed hc h : NextKeeps P (bitR8 5 (.reg .d) s))
  | bit5_E => exact (bitR8_closed hc h : NextKeeps P (bitR8 5 (.reg .e) s))
  | bit5_H => exact (bitR8_closed hc h : NextKeeps P (bitR8 5 (.reg .h) s))
  | bit5_L => exact (bitR8_closed hc h : NextKeeps P (bitR8 5 (.reg .l) s))
  | bit5_atHL => exact (bitR8_closed hc h : NextKeeps P (bitR8 5 .atHL s))
  | bit5_A => exact (bitR8_closed hc h : NextKeeps P (bitR8 5 (.reg .a) s))
  | bit6_B => exact (bitR8_closed hc h : NextKeeps P (bitR8 6 (.reg .b) s))
  | bit6_C => exact (bitR8_closed hc h : NextKeeps P (bitR8 6 (.reg .c) s))
  | bit6_D => exact (bitR8_closed hc h : NextKeeps P (bitR8 6 (.reg .d) s))
  | bit6_E => exact (bitR8_closed hc h : NextKeeps P (bitR8 6 (.reg .e) s))
  | bit6_H => exact (bitR8_closed hc h : NextKeeps P (bitR8 6 (.reg .h) s))
  | bit6_L => exact (bitR8_closed hc h : NextKeeps P (bitR8 6 (.reg .l) s))
  | bit6_atHL => exact (bitR8_closed hc h : NextKeeps P (bitR8 6 .atHL s))
  | bit6_A => exact (bitR8_closed hc h : NextKeeps P (bitR8 6 (.reg .a) s))
  | bit7_B => exact (bitR8_closed hc h : NextKeeps P (bitR8 7 (.reg .b) s))
  | bit7_C => exact (bitR8_closed hc h : NextKeeps P (bitR8 7 (.reg .c) s))
  | bit7_D => exact (bitR8_closed hc h : NextKeeps P (bitR8 7 (.reg .d) s))
  | bit7_E => exact (bitR8_closed hc h : NextKeeps P (bitR8 7 (.reg .e) s))
  | bit7_H => exact (bitR8_closed hc h : NextKeeps P (bitR8 7 (.reg .h) s))
  | bit7_L => exact (bitR8_closed hc h : NextKeeps P (bitR8 7 (.reg .l) s))
  | bit7_atHL => exact (bitR8_closed hc h : NextKeeps P (bitR8 7 .atHL s))
  | bit7_A => exact (bitR8_closed hc h : NextKeeps P (bitR8 7 (.reg .a) s))
  | res0_B => exact (resR8_closed hc h : NextKeeps P (resR8 0 (.reg .b) s))
  | res0_C => exact (resR8_closed hc h : NextKeeps P (resR8 0 (.reg .c) s))
  | res0_D => exact (resR8_closed hc h : NextKeeps P (resR8 0 (.reg .d) s))
  | res0_E => exact (resR8_closed hc h : NextKeeps P (resR8 0 (.reg .e) s))
  | res0_H => exact (resR8_closed hc h : NextKeeps P (resR8 0 (.reg .h) s))
  | res0_L => exact (resR8_closed hc h : NextKeeps P (resR8 0 (.reg .l) s))
  | res0_atHL => exact (resR8_closed hc h : NextKeeps P (resR8 0 .atHL s))
  | res0_A => exact (resR8_closed hc h : NextKeeps P (resR8 0 (.reg .a) s))
  | res1_B => exact (resR8_closed hc h : NextKeeps P (resR8 1 (.reg .b) s))
  | res1_C => exact (resR8_closed hc h : NextKeeps P (resR8 1 (.reg .c) s))
  | res1_D => exact (resR8_closed hc h : NextKeeps P (resR8 1 (.reg .d) s))
  | res1_E => exact (resR8_closed hc h : NextKeeps P (resR8 1 (.reg .e) s))
  | res1_H => exact (resR8_closed hc h : NextKeeps P (resR8 1 (.reg .h) s))
  | res1_L => exact (resR8_closed hc h : NextKeeps P (resR8 1 (.reg .l) s))
  | res1_atHL => exact (resR8_closed hc h : NextKeeps P (resR8 1 .atHL s))
  | res1_A => exact (resR8_closed hc h : NextKeeps P (resR8 1 (.reg .a) s))
  | res2_B => exact (resR8_closed hc h : NextKeeps P (resR8 2 (.reg .b) s))
  | res2_C => exact (resR8_closed hc h : NextKeeps P (resR8 2 (.reg .c) s))
  | res2_D => exact (resR8_closed hc h : NextKeeps P (resR8 2 (.reg .d) s))
  | res2_E => exact (resR8_closed hc h : NextKeeps P (resR8 2 (.reg .e) s))
  | res2_H => exact (resR8_closed hc h : NextKeeps P (resR8 2 (.reg .h) s))
  | res2_L => exact (resR8_closed hc h : NextKeeps P (resR8 2 (.reg .l) s))
  | res2_atHL => exact (resR8_closed hc h : NextKeeps P (resR8 2 .atHL s))
  | res2_A => exact (resR8_closed hc h : NextKeeps P (resR8 2 (.reg .a) s))
  | res3_B => exact (resR8_closed hc h : NextKeeps P (resR8 3 (.reg .b) s))
  | res3_C => exact (resR8_closed hc h : NextKeeps P (resR8 3 (.reg .c) s))
  | res3_D => exact (resR8_closed hc h : NextKeeps P (resR8 3 (.reg .d) s))
  | res3_E => exact (resR8_closed hc h : NextKeeps P (resR8 3 (.reg .e) s))
  | res3_H => exact (resR8_closed hc h : NextKeeps P (resR8 3 (.reg .h) s))
  | res3_L => exact (resR8_closed hc h : NextKeeps P (resR8 3 (.reg .l) s))
  | res3_atHL => exact (resR8_closed hc h : NextKeeps P (resR8 3 .atHL s))
  | res3_A => exact (resR8_closed hc h : NextKeeps P (resR8 3 (.reg .a) s))
  | res4_B => exact (resR8_closed hc h : NextKeeps P (resR8 4 (.reg .b) s))
  | res4_C => exact (resR8_closed hc h : NextKeeps P (resR8 4 (.reg .c) s))
  | res4_D => exact (resR8_closed hc h : NextKeeps P (resR8 4 (.reg .d) s))
  | res4_E => exact (resR8_closed hc h : NextKeeps P (resR8 4 (.reg .e) s))
  | res4_H => exact (resR8_closed hc h : NextKeeps P (resR8 4 (.reg .h) s))
  | res4_L => exact (resR8_closed hc h : NextKeeps P (resR8 4 (.reg .l) s))
  | res4_atHL => exact (resR8_closed hc h : NextKeeps P (resR8 4 .atHL s))
  | res4_A => exact (resR8_closed hc h : NextKeeps P (resR8 4 (.reg .a) s))
  | res5_B => exact (resR8_closed hc h : NextKeeps P (resR8 5 (.reg .b) s))
  | res5_C => exact (resR8_closed hc h : NextKeeps P (resR8 5 (.reg .c) s))
  | res5_D => exact (resR8_closed hc h : NextKeeps P (resR8 5 (.reg .d) s))
  | res5_E => exact (resR8_closed hc h : NextKeeps P (resR8 5 (.reg .e) s))
  | res5_H => exact (resR8_closed hc h : NextKeeps P (resR8 5 (.reg .h) s))
  | res5_L => exact (resR8_closed hc h : NextKeeps P (resR8 5 (.reg .l) s))
  | res5_atHL => exact (resR8_closed hc h : NextKeeps P (resR8 5 .atHL s))
  | res5_A => exact (resR8_closed hc h : NextKeeps P (resR8 5 (.reg .a) s))
  | res6_B => exact (resR8_closed hc h : NextKeeps P (resR8 6 (.reg .b) s))
  | res6_C => exact (resR8_closed hc h : NextKeeps P (resR8 6 (.reg .c) s))
  | res6_D => exact (resR8_closed hc h : NextKeeps P (resR8 6 (.reg .d) s))
  | res6_E => exact (resR8_closed hc h : NextKeeps P (resR8 6 (.reg .e) s))
  | res6_H => exact (resR8_closed hc h : NextKeeps P (resR8 6 (.reg .h) s))
  | res6_L => exact (resR8_closed hc h : NextKeeps P (resR8 6 (.reg .l) s))
  | res6_atHL => exact (resR8_closed hc h : NextKeeps P (resR8 6 .atHL s))
  | res6_A => exact (resR8_closed hc h : NextKeeps P (resR8 6 (.reg .a) s))
  | res7_B => exact (resR8_closed hc h : NextKeeps P (resR8 7 (.reg .b) s))
  | res7_C => exact (resR8_closed hc h : NextKeeps P (resR8 7 (.reg .c) s))
  | res7_D => exact (resR8_closed hc h : NextKeeps P (resR8 7 (.reg .d) s))
  | res7_E => exact (resR8_closed hc h : NextKeeps P (resR8 7 (.reg .e) s))
  | res7_H => exact (resR8_closed hc h : NextKeeps P (resR8 7 (.reg .h) s))
  | res7_L => exact (resR8_closed hc h : NextKeeps P (resR8 7 (.reg .l) s))
  | res7_atHL => exact (resR8_closed hc h : NextKeeps P (resR8 7 .atHL s))
  | res7_A => exact (resR8_closed hc h : NextKeeps P (resR8 7 (.reg .a) s))
  | set0_B => exact (setR8_closed hc h : NextKeeps P (setR8 0 (.reg .b) s))
  | set0_C => exact (setR8_closed hc h : NextKeeps P (setR8 0 (.reg .c) s))
  | set0_D => exact (setR8_closed hc h : NextKeeps P (setR8 0 (.reg .d) s))
  | set0_E => exact (setR8_closed hc h : NextKeeps P (setR8 0 (.reg .e) s))
  | set0_H => exact (setR8_closed hc h : NextKeeps P (setR8 0 (.reg .h) s))
  | set0_L => exact (setR8_closed hc h : NextKeeps P (setR8 0 (.reg .l) s))
  | set0_atHL => exact (setR8_closed hc h : NextKeeps P (setR8 0 .atHL s))
  | set0_A => exact (setR8_closed hc h : NextKeeps P (setR8 0 (.reg .a) s))
  | set1_B => exact (setR8_closed hc h : NextKeeps P (setR8 1 (.reg .b) s))
  | set1_C => exact (setR8_closed hc h : NextKeeps P (setR8 1 (.reg .c) s))
  | set1_D => exact (setR8_closed hc h : NextKeeps P (setR8 1 (.reg .d) s))
  | set1_E => exact (setR8_closed hc h : NextKeeps P (setR8 1 (.reg .e) s))
  | set1_H => exact (setR8_closed hc h : NextKeeps P (setR8 1 (.reg .h) s))
  | set1_L => exact (setR8_closed hc h : NextKeeps P (setR8 1 (.reg .l) s))
  | set1_atHL => exact (setR8_closed hc h : NextKeeps P (setR8 1 .atHL s))
  | set1_A => exact (setR8_closed hc h : NextKeeps P (setR8 1 (.reg .a) s))
  | set2_B => exact (setR8_closed hc h : NextKeeps P (setR8 2 (.reg .b) s))
  | set2_C => exact (setR8_closed hc h : NextKeeps P (setR8 2 (.reg .c) s))
  | set2_D => exact (setR8_closed hc h : NextKeeps P (setR8 2 (.reg .d) s))
  | set2_E => exact (setR8_closed hc h : NextKeeps P (setR8 2 (.reg .e) s))
  | set2_H => exact (setR8_closed hc h : NextKeeps P (setR8 2 (.reg .h) s))
  | set2_L => exact (setR8_closed hc h : NextKeeps P (setR8 2 (.reg .l) s))
  | set2_atHL => exact (setR8_closed hc h : NextKeeps P (setR8 2 .atHL s))
  | set2_A => exact (setR8_closed hc h : NextKeeps P (setR8 2 (.reg .a) s))
  | set3_B => exact (setR8_closed hc h : NextKeeps P (setR8 3 (.reg .b) s))
  | set3_C => exact (setR8_closed hc h : NextKeeps P (setR8 3 (.reg .c) s))
  | set3_D => exact (setR8_closed hc h : NextKeeps P (setR8 3 (.reg .d) s))
  | set3_E => exact (setR8_closed hc h : NextKeeps P (setR8 3 (.reg .e) s))
  | set3_H => exact (setR8_closed hc h : NextKeeps P (setR8 3 (.reg .h) s))
  | set3_L => exact (setR8_closed hc h : NextKeeps P (setR8 3 (.reg .l) s))
  | set3_atHL => exact (setR8_closed hc h : NextKeeps P (setR8 3 .atHL s))
  | set3_A => exact (setR8_closed hc h : NextKeeps P (setR8 3 (.reg .a) s))
  | set4_B => exact (setR8_closed hc h : NextKeeps P (setR8 4 (.reg .b) s))
  | set4_C => exact (setR8_closed hc h : NextKeeps P (setR8 4 (.reg .c) s))
  | set4_D => exact (setR8_closed hc h : NextKeeps P (setR8 4 (.reg .d) s))
  | set4_E => exact (setR8_closed hc h : NextKeeps P (setR8 4 (.reg .e) s))
  | set4_H => exact (setR8_closed hc h : NextKeeps P (setR8 4 (.reg .h) s))
  | set4_L => exact (setR8_closed hc h : NextKeeps P (setR8 4 (.reg .l) s))
  | set4_atHL => exact (setR8_closed hc h : NextKeeps P (setR8 4 .atHL s))
  | set4_A => exact (setR8_closed hc h : NextKeeps P (setR8 4 (.reg .a) s))
  | set5_B => exact (setR8_closed hc h : NextKeeps P (setR8 5 (.reg .b) s))
  | set5_C => exact (setR8_closed hc h : NextKeeps P (setR8 5 (.reg .c) s))
  | set5_D => exact (setR8_closed hc h : NextKeeps P (setR8 5 (.reg .d) s))
  | set5_E => exact (setR8_closed hc h : NextKeeps P (setR8 5 (.reg .e) s))
  | set5_H => exact (setR8_closed hc h : NextKeeps P (setR8 5 (.reg .h) s))
  | set5_L => exact (setR8_closed hc h : NextKeeps P (setR8 5 (.reg .l) s))
  | set5_atHL => exact (setR8_closed hc h : NextKeeps P (setR8 5 .atHL s))
  | set5_A => exact (setR8_closed hc h : NextKeeps P (setR8 5 (.reg .a) s))
  | set6_B => exact (setR8_closed hc h : NextKeeps P (setR8 6 (.reg .b) s))
  | set6_C => exact (setR8_closed hc h : NextKeeps P (setR8 6 (.reg .c) s))
  | set6_D => exact (setR8_closed hc h : NextKeeps P (setR8 6 (.reg .d) s))
  | set6_E => exact (setR8_closed hc h : NextKeeps P (setR8 6 (.reg .e) s))
  | set6_H => exact (setR8_closed hc h : NextKeeps P (setR8 6 (.reg .h) s))
  | set6_L => exact (setR8_closed hc h : NextKeeps P (setR8 6 (.reg .l) s))
  | set6_atHL => exact (setR8_closed hc h : NextKeeps P (setR8 6 .atHL s))
  | set6_A => exact (setR8_closed hc h : NextKeeps P (setR8 6 (.reg .a) s))
  | set7_B => exact (setR8_closed hc h : NextKeeps P (setR8 7 (.reg .b) s))
  | set7_C => exact (setR8_closed hc h : NextKeeps P (setR8 7 (.reg .c) s))
  | set7_D => exact (setR8_closed hc h : NextKeeps P (setR8 7 (.reg .d) s))
  | set7_E => exact (setR8_closed hc h : NextKeeps P (setR8 7 (.reg .e) s))
  | set7_H => exact (setR8_closed hc h : NextKeeps P (setR8 7 (.reg .h) s))
  | set7_L => exact (setR8_closed hc h : NextKeeps P (setR8 7 (.reg .l) s))
  | set7_atHL => exact (setR8_closed hc h : NextKeeps P (setR8 7 .atHL s))
  | set7_A => exact (setR8_closed hc h : NextKeeps P (setR8 7 (.reg .a) s))

end Sys2Proof.Machine
end

