-- ==== Sys2Proof/Laws/Fetch.lean ====
section
/-! SUPPORT. What fetching and decoding an instruction does when no fetch raises an error (60_exceptions.md R430). -/

namespace Sys2Proof.Machine

variable {s : State}

/-- A read leaves what a later fetch of the same instruction needs. -/
theorem CanRead.afterRead {a b : Word} (hne : a ≠ 0x0100 ∨ 0x0100 ≤ b) (h : CanRead s b) : CanRead (s.afterRead a) b := by
  rcases h with hc | ho | hr
  · exact Or.inl (by simpa [CartLoaded] using hc)
  · rcases hne with hne | hne
    · refine Or.inr (Or.inl ?_)
      unfold overlaid at ho ⊢
      rw [State.afterRead_bootActive, decide_eq_true hne, Bool.and_true]
      exact ho
    · have hb : ¬ b ≤ 0x00FF := by bv_omega
      simp [overlaid] at ho
      exact absurd ho.2 hb
  · exact Or.inr (Or.inr (by simpa using hr))

/-- A read that cannot reach a missing cartridge leaves a state without one as it was. -/
theorem CanRead.afterRead_eq_self {a : Word} (hc : ¬ CartLoaded s) (h : CanRead s a) : s.afterRead a = s := by
  have hcart : s.cart = none := by
    cases hs : s.cart
    · rfl
    · exact absurd (by simp [CartLoaded, hs]) hc
  have hne : a ≠ 0x0100 := by
    rintro rfl
    rcases h with h | h | h
    · exact hc h
    · simp [overlaid] at h
    · exact h (route_cart.2 (by decide))
  rw [State.afterRead_eq, decide_eq_true hne, Bool.and_true, hcart]
  cases s
  simp_all

/-- Fetching the next instruction where the read of its second or third byte is the first to miss the cartridge. -/
theorem fetchInstr_missed {k : Nat} (h1 : 1 ≤ k) (hk : k < instrLength (s.peek s.regs.pc))
    (hb : ∀ j < k, CanRead s (s.fetchAddr j)) (hm : ¬ CanRead s (s.fetchAddr k)) :
    fetchInstr s = .error (.mbcNotLoaded (s.fetchAddr k)) ((s.afterFetch k).afterRead (s.fetchAddr k)) := by
  have h0 : s.fetchAddr 0 = s.regs.pc := State.fetchAddr_zero
  have hc : ¬ CartLoaded s := fun h => hm (Or.inl h)
  have hread (n : Nat) (hn : n ≤ k) : (List.range n).foldl (fun t k => t.afterRead (s.fetchAddr k)) s = s := by
    induction n with
    | zero => rfl
    | succ n ih =>
      rw [List.range_succ, List.foldl_append, ih (by omega)]
      exact CanRead.afterRead_eq_self hc (hb n (by omega))
  have hfetch (n : Nat) (hn : n ≤ k) : s.afterFetch n =
      { s with regs := { s.regs with pc := s.fetchAddr n }, opcodeAddr := s.regs.pc, haltBugArmed := false } := by
    unfold State.afterFetch
    rw [hread n hn]
  have hpc (n : Nat) : (s.afterFetch n).regs.pc = s.fetchAddr n := rfl
  have hcan (n : Nat) (hn : n ≤ k) (a : Word) : CanRead (s.afterFetch n) a ↔ CanRead s a := by
    rw [hfetch n hn]
    exact CanRead.congr rfl rfl rfl
  have hop : fetchOpcode s = .ok (s.peek s.regs.pc) (s.afterFetch 1) := fetchOpcode_ok (h0 ▸ hb 0 (by omega))
  have hmiss : fetch8 (s.afterFetch k) = .error (.mbcNotLoaded (s.fetchAddr k)) ((s.afterFetch k).afterRead (s.fetchAddr k)) := by
    unfold fetch8
    rw [hpc, memRead_error (fun h => hm ((hcan k (by omega) _).1 h))]
    rfl
  have hlen : k = 1 ∨ k = 2 := by
    rcases instrLength_cases (s.peek s.regs.pc) with hl | hl | hl <;> omega
  unfold fetchInstr
  rw [hop]
  simp only [Access.bind_ok]
  rw [if_neg (by omega)]
  rcases hlen with rfl | rfl
  · rw [hmiss]
    rfl
  · have h2 : fetch8 (s.afterFetch 1) = .ok ((s.afterFetch 1).peek (s.fetchAddr 1)) (s.afterFetch 2) := by
      have hnc : ¬ CartLoaded (s.afterFetch 1) := by
        rw [hfetch 1 (by omega)]
        exact hc
      have h1 := (hcan 1 (by omega) _).2 (hb 1 (by omega))
      have hpc2 : s.fetchAddr 1 + 1 = s.fetchAddr 2 := by
        unfold State.fetchAddr
        split <;> exact BitVec.add_assoc ..
      rw [fetch8_ok (by rw [hpc]; exact h1), hpc, CanRead.afterRead_eq_self hnc h1, hpc2, hfetch 1 (by omega),
        hfetch 2 le_rfl]
      rfl
    rw [h2]
    simp only [Access.bind_ok]
    rw [if_neg (by omega), hmiss]
    rfl

/-- Fetching the next instruction. -/
theorem fetchInstr_ok (h : ∀ k, k < instrLength (s.peek (s.fetchAddr 0)) → CanRead s (s.fetchAddr k)) :
    fetchInstr s =
      .ok (decodeBytes (s.peek (s.fetchAddr 0)) (s.peek (s.fetchAddr 1)) (s.peek (s.fetchAddr 2)))
        (s.afterFetch (instrLength (s.peek (s.fetchAddr 0)))) := by
  have h0 : s.fetchAddr 0 = s.regs.pc := State.fetchAddr_zero
  have hpos : 0 < instrLength (s.peek (s.fetchAddr 0)) := by
    rcases instrLength_cases (s.peek (s.fetchAddr 0)) with hl | hl | hl <;> omega
  have c0 : CanRead s s.regs.pc := h0 ▸ h 0 hpos
  have hop := fetchOpcode_ok c0
  have hpc (n : Nat) : (s.afterFetch n).regs.pc = s.fetchAddr n := rfl
  have hdis (n : Nat) : (s.afterFetch n).haltBugArmed = false := rfl
  have hnext (n : Nat) (hn : 0 < n) : s.fetchAddr n + 1 = s.fetchAddr (n + 1) := by
    unfold State.fetchAddr
    split
    · have : n + 1 - 1 = n - 1 + 1 := by omega
      rw [this, BitVec.ofNat_add, BitVec.add_assoc]
      rfl
    · rw [BitVec.ofNat_add, BitVec.add_assoc]
      rfl
  have hread (n : Nat) (hn : 0 < n) : ((s.afterFetch n).afterRead (s.fetchAddr n)).setPc (s.fetchAddr n + 1) =
      s.afterFetch (n + 1) := by
    rw [hnext n hn]
    unfold State.afterFetch State.setPc
    simp only [List.range_succ, List.foldl_append, List.foldl_cons, List.foldl_nil]
    generalize (List.range n).foldl (fun t k => t.afterRead (s.fetchAddr k)) s = u
    simp only [State.afterRead_eq, overlaid]
    rfl
  have hpeek1 (b : Word) (hb : s.regs.pc ≠ 0x0100 ∨ 0x0100 ≤ b) : (s.afterFetch 1).peek b = s.peek b := by
    have : (s.afterFetch 1).peek = (s.afterRead s.regs.pc).peek := by
      apply State.peek_congr <;> simp only [State.afterFetch, List.range_one, List.foldl_cons, List.foldl_nil, h0]
    rw [this, peek_afterRead hb]
  have hcan1 (b : Word) (hb : s.regs.pc ≠ 0x0100 ∨ 0x0100 ≤ b) (hc : CanRead s b) : CanRead (s.afterFetch 1) b := by
    have := CanRead.afterRead hb hc
    unfold State.afterFetch
    simp only [List.range_one, List.foldl_cons, List.foldl_nil, h0]
    exact (CanRead.congr rfl rfl rfl).2 this
  have hz1 : s.regs.pc ≠ 0x0100 ∨ 0x0100 ≤ s.fetchAddr 1 := by
    by_cases hz : s.regs.pc = 0x0100
    · right
      unfold State.fetchAddr
      rw [hz]
      split <;> decide
    · exact Or.inl hz
  have hz2 : s.regs.pc ≠ 0x0100 ∨ 0x0100 ≤ s.fetchAddr 2 := by
    by_cases hz : s.regs.pc = 0x0100
    · right
      unfold State.fetchAddr
      rw [hz]
      split <;> decide
    · exact Or.inl hz
  have hz3 : s.fetchAddr 1 ≠ 0x0100 ∨ 0x0100 ≤ s.fetchAddr 2 := by
    rw [← hnext 1 (by decide)]
    by_cases hz : s.fetchAddr 1 = 0x0100
    · right
      rw [hz]
      decide
    · exact Or.inl hz
  unfold fetchInstr
  rw [hop]
  simp only [Access.bind_ok, ← h0]
  rcases instrLength_cases (s.peek (s.fetchAddr 0)) with hl | hl | hl
  · rw [if_pos hl, hl, decodeBytes_one hl (s.peek (s.fetchAddr 1))]
  · rw [if_neg (by omega), hl, fetch8_ok (by rw [hpc]; exact hcan1 _ hz1 (h 1 (by omega)))]
    simp only [Access.bind_ok, if_true]
    rw [hpc, hpeek1 _ hz1, hread 1 (by decide), decodeBytes_two hl _ (s.peek (s.fetchAddr 2))]
  · rw [if_neg (by omega), hl, fetch8_ok (by rw [hpc]; exact hcan1 _ hz1 (h 1 (by omega)))]
    simp only [Access.bind_ok]
    rw [if_neg (by decide), hpc, hpeek1 _ hz1, hread 1 (by decide)]
    have hp2 : (s.afterFetch 2).peek (s.fetchAddr 2) = s.peek (s.fetchAddr 2) := by
      rw [← hread 1 (by decide), State.setPc_peek, peek_afterRead hz3, hpeek1 _ hz2]
    have hc2 : CanRead (s.afterFetch 2) (s.fetchAddr 2) := by
      rw [← hread 1 (by decide)]
      exact (CanRead.congr rfl rfl rfl).2 (CanRead.afterRead hz3 (hcan1 _ hz2 (h 2 (by omega))))
    rw [fetch8_ok (by rw [hpc]; exact hc2)]
    simp only [Access.bind_ok]
    rw [hpc, hp2, hread 2 (by decide)]

end Sys2Proof.Machine
end

