-- ==== Sys2Proof/Laws/PerInstr.lean ====
section
/-! SUPPORT. The statements made for each instruction as syntax: the shape of its encoding (30_encoding.md R180). -/

namespace Sys2Proof.Laws

/-- The encoding is not empty, is at most three bytes, and for a whole instruction has the length its first byte alone gives. -/
def EncodingShape.Statement (i : Instr) : Prop :=
  ∃ op rest, encode i = op :: rest ∧ rest.length ≤ 2 ∧ (i.wellFormed = true → rest.length + 1 = instrLength op)

theorem EncodingShape.nop : EncodingShape.Statement .nop := ⟨_, _, rfl, Nat.le_of_ble_eq_true rfl, fun _ => rfl⟩
theorem EncodingShape.ldBC_nn (nn : Word) : EncodingShape.Statement (.ldBC_nn nn) := ⟨_, _, rfl, Nat.le_of_ble_eq_true rfl, fun _ => rfl⟩
theorem EncodingShape.ldAtBC_A : EncodingShape.Statement .ldAtBC_A := ⟨_, _, rfl, Nat.le_of_ble_eq_true rfl, fun _ => rfl⟩
theorem EncodingShape.incBC : EncodingShape.Statement .incBC := ⟨_, _, rfl, Nat.le_of_ble_eq_true rfl, fun _ => rfl⟩
theorem EncodingShape.incB : EncodingShape.Statement .incB := ⟨_, _, rfl, Nat.le_of_ble_eq_true rfl, fun _ => rfl⟩
theorem EncodingShape.decB : EncodingShape.Statement .decB := ⟨_, _, rfl, Nat.le_of_ble_eq_true rfl, fun _ => rfl⟩
theorem EncodingShape.ldB_n (n : Byte) : EncodingShape.Statement (.ldB_n n) := ⟨_, _, rfl, Nat.le_of_ble_eq_true rfl, fun _ => rfl⟩
theorem EncodingShape.rlca : EncodingShape.Statement .rlca := ⟨_, _, rfl, Nat.le_of_ble_eq_true rfl, fun _ => rfl⟩
theorem EncodingShape.ldAtNN_SP (nn : Word) : EncodingShape.Statement (.ldAtNN_SP nn) := ⟨_, _, rfl, Nat.le_of_ble_eq_true rfl, fun _ => rfl⟩
theorem EncodingShape.addHL_BC : EncodingShape.Statement .addHL_BC := ⟨_, _, rfl, Nat.le_of_ble_eq_true rfl, fun _ => rfl⟩
theorem EncodingShape.ldA_atBC : EncodingShape.Statement .ldA_atBC := ⟨_, _, rfl, Nat.le_of_ble_eq_true rfl, fun _ => rfl⟩
theorem EncodingShape.decBC : EncodingShape.Statement .decBC := ⟨_, _, rfl, Nat.le_of_ble_eq_true rfl, fun _ => rfl⟩
theorem EncodingShape.incC : EncodingShape.Statement .incC := ⟨_, _, rfl, Nat.le_of_ble_eq_true rfl, fun _ => rfl⟩
theorem EncodingShape.decC : EncodingShape.Statement .decC := ⟨_, _, rfl, Nat.le_of_ble_eq_true rfl, fun _ => rfl⟩
theorem EncodingShape.ldC_n (n : Byte) : EncodingShape.Statement (.ldC_n n) := ⟨_, _, rfl, Nat.le_of_ble_eq_true rfl, fun _ => rfl⟩
theorem EncodingShape.rrca : EncodingShape.Statement .rrca := ⟨_, _, rfl, Nat.le_of_ble_eq_true rfl, fun _ => rfl⟩
theorem EncodingShape.stop (n : Byte) : EncodingShape.Statement (.stop n) := ⟨_, _, rfl, Nat.le_of_ble_eq_true rfl, fun _ => rfl⟩
theorem EncodingShape.ldDE_nn (nn : Word) : EncodingShape.Statement (.ldDE_nn nn) := ⟨_, _, rfl, Nat.le_of_ble_eq_true rfl, fun _ => rfl⟩
theorem EncodingShape.ldAtDE_A : EncodingShape.Statement .ldAtDE_A := ⟨_, _, rfl, Nat.le_of_ble_eq_true rfl, fun _ => rfl⟩
theorem EncodingShape.incDE : EncodingShape.Statement .incDE := ⟨_, _, rfl, Nat.le_of_ble_eq_true rfl, fun _ => rfl⟩
theorem EncodingShape.incD : EncodingShape.Statement .incD := ⟨_, _, rfl, Nat.le_of_ble_eq_true rfl, fun _ => rfl⟩
theorem EncodingShape.decD : EncodingShape.Statement .decD := ⟨_, _, rfl, Nat.le_of_ble_eq_true rfl, fun _ => rfl⟩
theorem EncodingShape.ldD_n (n : Byte) : EncodingShape.Statement (.ldD_n n) := ⟨_, _, rfl, Nat.le_of_ble_eq_true rfl, fun _ => rfl⟩
theorem EncodingShape.rla : EncodingShape.Statement .rla := ⟨_, _, rfl, Nat.le_of_ble_eq_true rfl, fun _ => rfl⟩
theorem EncodingShape.jr_e (e : Byte) : EncodingShape.Statement (.jr_e e) := ⟨_, _, rfl, Nat.le_of_ble_eq_true rfl, fun _ => rfl⟩
theorem EncodingShape.addHL_DE : EncodingShape.Statement .addHL_DE := ⟨_, _, rfl, Nat.le_of_ble_eq_true rfl, fun _ => rfl⟩
theorem EncodingShape.ldA_atDE : EncodingShape.Statement .ldA_atDE := ⟨_, _, rfl, Nat.le_of_ble_eq_true rfl, fun _ => rfl⟩
theorem EncodingShape.decDE : EncodingShape.Statement .decDE := ⟨_, _, rfl, Nat.le_of_ble_eq_true rfl, fun _ => rfl⟩
theorem EncodingShape.incE : EncodingShape.Statement .incE := ⟨_, _, rfl, Nat.le_of_ble_eq_true rfl, fun _ => rfl⟩
theorem EncodingShape.decE : EncodingShape.Statement .decE := ⟨_, _, rfl, Nat.le_of_ble_eq_true rfl, fun _ => rfl⟩
theorem EncodingShape.ldE_n (n : Byte) : EncodingShape.Statement (.ldE_n n) := ⟨_, _, rfl, Nat.le_of_ble_eq_true rfl, fun _ => rfl⟩
theorem EncodingShape.rra : EncodingShape.Statement .rra := ⟨_, _, rfl, Nat.le_of_ble_eq_true rfl, fun _ => rfl⟩
theorem EncodingShape.jrNZ_e (e : Byte) : EncodingShape.Statement (.jrNZ_e e) := ⟨_, _, rfl, Nat.le_of_ble_eq_true rfl, fun _ => rfl⟩
theorem EncodingShape.ldHL_nn (nn : Word) : EncodingShape.Statement (.ldHL_nn nn) := ⟨_, _, rfl, Nat.le_of_ble_eq_true rfl, fun _ => rfl⟩
theorem EncodingShape.ldAtHLI_A : EncodingShape.Statement .ldAtHLI_A := ⟨_, _, rfl, Nat.le_of_ble_eq_true rfl, fun _ => rfl⟩
theorem EncodingShape.incHL : EncodingShape.Statement .incHL := ⟨_, _, rfl, Nat.le_of_ble_eq_true rfl, fun _ => rfl⟩
theorem EncodingShape.incH : EncodingShape.Statement .incH := ⟨_, _, rfl, Nat.le_of_ble_eq_true rfl, fun _ => rfl⟩
theorem EncodingShape.decH : EncodingShape.Statement .decH := ⟨_, _, rfl, Nat.le_of_ble_eq_true rfl, fun _ => rfl⟩
theorem EncodingShape.ldH_n (n : Byte) : EncodingShape.Statement (.ldH_n n) := ⟨_, _, rfl, Nat.le_of_ble_eq_true rfl, fun _ => rfl⟩
theorem EncodingShape.daa : EncodingShape.Statement .daa := ⟨_, _, rfl, Nat.le_of_ble_eq_true rfl, fun _ => rfl⟩
theorem EncodingShape.jrZ_e (e : Byte) : EncodingShape.Statement (.jrZ_e e) := ⟨_, _, rfl, Nat.le_of_ble_eq_true rfl, fun _ => rfl⟩
theorem EncodingShape.addHL_HL : EncodingShape.Statement .addHL_HL := ⟨_, _, rfl, Nat.le_of_ble_eq_true rfl, fun _ => rfl⟩
theorem EncodingShape.ldA_atHLI : EncodingShape.Statement .ldA_atHLI := ⟨_, _, rfl, Nat.le_of_ble_eq_true rfl, fun _ => rfl⟩
theorem EncodingShape.decHL : EncodingShape.Statement .decHL := ⟨_, _, rfl, Nat.le_of_ble_eq_true rfl, fun _ => rfl⟩
theorem EncodingShape.incL : EncodingShape.Statement .incL := ⟨_, _, rfl, Nat.le_of_ble_eq_true rfl, fun _ => rfl⟩
theorem EncodingShape.decL : EncodingShape.Statement .decL := ⟨_, _, rfl, Nat.le_of_ble_eq_true rfl, fun _ => rfl⟩
theorem EncodingShape.ldL_n (n : Byte) : EncodingShape.Statement (.ldL_n n) := ⟨_, _, rfl, Nat.le_of_ble_eq_true rfl, fun _ => rfl⟩
theorem EncodingShape.cpl : EncodingShape.Statement .cpl := ⟨_, _, rfl, Nat.le_of_ble_eq_true rfl, fun _ => rfl⟩
theorem EncodingShape.jrNC_e (e : Byte) : EncodingShape.Statement (.jrNC_e e) := ⟨_, _, rfl, Nat.le_of_ble_eq_true rfl, fun _ => rfl⟩
theorem EncodingShape.ldSP_nn (nn : Word) : EncodingShape.Statement (.ldSP_nn nn) := ⟨_, _, rfl, Nat.le_of_ble_eq_true rfl, fun _ => rfl⟩
theorem EncodingShape.ldAtHLD_A : EncodingShape.Statement .ldAtHLD_A := ⟨_, _, rfl, Nat.le_of_ble_eq_true rfl, fun _ => rfl⟩
theorem EncodingShape.incSP : EncodingShape.Statement .incSP := ⟨_, _, rfl, Nat.le_of_ble_eq_true rfl, fun _ => rfl⟩
theorem EncodingShape.incAtHL : EncodingShape.Statement .incAtHL := ⟨_, _, rfl, Nat.le_of_ble_eq_true rfl, fun _ => rfl⟩
theorem EncodingShape.decAtHL : EncodingShape.Statement .decAtHL := ⟨_, _, rfl, Nat.le_of_ble_eq_true rfl, fun _ => rfl⟩
theorem EncodingShape.ldAtHL_n (n : Byte) : EncodingShape.Statement (.ldAtHL_n n) := ⟨_, _, rfl, Nat.le_of_ble_eq_true rfl, fun _ => rfl⟩
theorem EncodingShape.scf : EncodingShape.Statement .scf := ⟨_, _, rfl, Nat.le_of_ble_eq_true rfl, fun _ => rfl⟩
theorem EncodingShape.jrC_e (e : Byte) : EncodingShape.Statement (.jrC_e e) := ⟨_, _, rfl, Nat.le_of_ble_eq_true rfl, fun _ => rfl⟩
theorem EncodingShape.addHL_SP : EncodingShape.Statement .addHL_SP := ⟨_, _, rfl, Nat.le_of_ble_eq_true rfl, fun _ => rfl⟩
theorem EncodingShape.ldA_atHLD : EncodingShape.Statement .ldA_atHLD := ⟨_, _, rfl, Nat.le_of_ble_eq_true rfl, fun _ => rfl⟩
theorem EncodingShape.decSP : EncodingShape.Statement .decSP := ⟨_, _, rfl, Nat.le_of_ble_eq_true rfl, fun _ => rfl⟩
theorem EncodingShape.incA : EncodingShape.Statement .incA := ⟨_, _, rfl, Nat.le_of_ble_eq_true rfl, fun _ => rfl⟩
theorem EncodingShape.decA : EncodingShape.Statement .decA := ⟨_, _, rfl, Nat.le_of_ble_eq_true rfl, fun _ => rfl⟩
theorem EncodingShape.ldA_n (n : Byte) : EncodingShape.Statement (.ldA_n n) := ⟨_, _, rfl, Nat.le_of_ble_eq_true rfl, fun _ => rfl⟩
theorem EncodingShape.ccf : EncodingShape.Statement .ccf := ⟨_, _, rfl, Nat.le_of_ble_eq_true rfl, fun _ => rfl⟩
theorem EncodingShape.ldB_B : EncodingShape.Statement .ldB_B := ⟨_, _, rfl, Nat.le_of_ble_eq_true rfl, fun _ => rfl⟩
theorem EncodingShape.ldB_C : EncodingShape.Statement .ldB_C := ⟨_, _, rfl, Nat.le_of_ble_eq_true rfl, fun _ => rfl⟩
theorem EncodingShape.ldB_D : EncodingShape.Statement .ldB_D := ⟨_, _, rfl, Nat.le_of_ble_eq_true rfl, fun _ => rfl⟩
theorem EncodingShape.ldB_E : EncodingShape.Statement .ldB_E := ⟨_, _, rfl, Nat.le_of_ble_eq_true rfl, fun _ => rfl⟩
theorem EncodingShape.ldB_H : EncodingShape.Statement .ldB_H := ⟨_, _, rfl, Nat.le_of_ble_eq_true rfl, fun _ => rfl⟩
theorem EncodingShape.ldB_L : EncodingShape.Statement .ldB_L := ⟨_, _, rfl, Nat.le_of_ble_eq_true rfl, fun _ => rfl⟩
theorem EncodingShape.ldB_atHL : EncodingShape.Statement .ldB_atHL := ⟨_, _, rfl, Nat.le_of_ble_eq_true rfl, fun _ => rfl⟩
theorem EncodingShape.ldB_A : EncodingShape.Statement .ldB_A := ⟨_, _, rfl, Nat.le_of_ble_eq_true rfl, fun _ => rfl⟩
theorem EncodingShape.ldC_B : EncodingShape.Statement .ldC_B := ⟨_, _, rfl, Nat.le_of_ble_eq_true rfl, fun _ => rfl⟩
theorem EncodingShape.ldC_C : EncodingShape.Statement .ldC_C := ⟨_, _, rfl, Nat.le_of_ble_eq_true rfl, fun _ => rfl⟩
theorem EncodingShape.ldC_D : EncodingShape.Statement .ldC_D := ⟨_, _, rfl, Nat.le_of_ble_eq_true rfl, fun _ => rfl⟩
theorem EncodingShape.ldC_E : EncodingShape.Statement .ldC_E := ⟨_, _, rfl, Nat.le_of_ble_eq_true rfl, fun _ => rfl⟩
theorem EncodingShape.ldC_H : EncodingShape.Statement .ldC_H := ⟨_, _, rfl, Nat.le_of_ble_eq_true rfl, fun _ => rfl⟩
theorem EncodingShape.ldC_L : EncodingShape.Statement .ldC_L := ⟨_, _, rfl, Nat.le_of_ble_eq_true rfl, fun _ => rfl⟩
theorem EncodingShape.ldC_atHL : EncodingShape.Statement .ldC_atHL := ⟨_, _, rfl, Nat.le_of_ble_eq_true rfl, fun _ => rfl⟩
theorem EncodingShape.ldC_A : EncodingShape.Statement .ldC_A := ⟨_, _, rfl, Nat.le_of_ble_eq_true rfl, fun _ => rfl⟩
theorem EncodingShape.ldD_B : EncodingShape.Statement .ldD_B := ⟨_, _, rfl, Nat.le_of_ble_eq_true rfl, fun _ => rfl⟩
theorem EncodingShape.ldD_C : EncodingShape.Statement .ldD_C := ⟨_, _, rfl, Nat.le_of_ble_eq_true rfl, fun _ => rfl⟩
theorem EncodingShape.ldD_D : EncodingShape.Statement .ldD_D := ⟨_, _, rfl, Nat.le_of_ble_eq_true rfl, fun _ => rfl⟩
theorem EncodingShape.ldD_E : EncodingShape.Statement .ldD_E := ⟨_, _, rfl, Nat.le_of_ble_eq_true rfl, fun _ => rfl⟩
theorem EncodingShape.ldD_H : EncodingShape.Statement .ldD_H := ⟨_, _, rfl, Nat.le_of_ble_eq_true rfl, fun _ => rfl⟩
theorem EncodingShape.ldD_L : EncodingShape.Statement .ldD_L := ⟨_, _, rfl, Nat.le_of_ble_eq_true rfl, fun _ => rfl⟩
theorem EncodingShape.ldD_atHL : EncodingShape.Statement .ldD_atHL := ⟨_, _, rfl, Nat.le_of_ble_eq_true rfl, fun _ => rfl⟩
theorem EncodingShape.ldD_A : EncodingShape.Statement .ldD_A := ⟨_, _, rfl, Nat.le_of_ble_eq_true rfl, fun _ => rfl⟩
theorem EncodingShape.ldE_B : EncodingShape.Statement .ldE_B := ⟨_, _, rfl, Nat.le_of_ble_eq_true rfl, fun _ => rfl⟩
theorem EncodingShape.ldE_C : EncodingShape.Statement .ldE_C := ⟨_, _, rfl, Nat.le_of_ble_eq_true rfl, fun _ => rfl⟩
theorem EncodingShape.ldE_D : EncodingShape.Statement .ldE_D := ⟨_, _, rfl, Nat.le_of_ble_eq_true rfl, fun _ => rfl⟩
theorem EncodingShape.ldE_E : EncodingShape.Statement .ldE_E := ⟨_, _, rfl, Nat.le_of_ble_eq_true rfl, fun _ => rfl⟩
theorem EncodingShape.ldE_H : EncodingShape.Statement .ldE_H := ⟨_, _, rfl, Nat.le_of_ble_eq_true rfl, fun _ => rfl⟩
theorem EncodingShape.ldE_L : EncodingShape.Statement .ldE_L := ⟨_, _, rfl, Nat.le_of_ble_eq_true rfl, fun _ => rfl⟩
theorem EncodingShape.ldE_atHL : EncodingShape.Statement .ldE_atHL := ⟨_, _, rfl, Nat.le_of_ble_eq_true rfl, fun _ => rfl⟩
theorem EncodingShape.ldE_A : EncodingShape.Statement .ldE_A := ⟨_, _, rfl, Nat.le_of_ble_eq_true rfl, fun _ => rfl⟩
theorem EncodingShape.ldH_B : EncodingShape.Statement .ldH_B := ⟨_, _, rfl, Nat.le_of_ble_eq_true rfl, fun _ => rfl⟩
theorem EncodingShape.ldH_C : EncodingShape.Statement .ldH_C := ⟨_, _, rfl, Nat.le_of_ble_eq_true rfl, fun _ => rfl⟩
theorem EncodingShape.ldH_D : EncodingShape.Statement .ldH_D := ⟨_, _, rfl, Nat.le_of_ble_eq_true rfl, fun _ => rfl⟩
theorem EncodingShape.ldH_E : EncodingShape.Statement .ldH_E := ⟨_, _, rfl, Nat.le_of_ble_eq_true rfl, fun _ => rfl⟩
theorem EncodingShape.ldH_H : EncodingShape.Statement .ldH_H := ⟨_, _, rfl, Nat.le_of_ble_eq_true rfl, fun _ => rfl⟩
theorem EncodingShape.ldH_L : EncodingShape.Statement .ldH_L := ⟨_, _, rfl, Nat.le_of_ble_eq_true rfl, fun _ => rfl⟩
theorem EncodingShape.ldH_atHL : EncodingShape.Statement .ldH_atHL := ⟨_, _, rfl, Nat.le_of_ble_eq_true rfl, fun _ => rfl⟩
theorem EncodingShape.ldH_A : EncodingShape.Statement .ldH_A := ⟨_, _, rfl, Nat.le_of_ble_eq_true rfl, fun _ => rfl⟩
theorem EncodingShape.ldL_B : EncodingShape.Statement .ldL_B := ⟨_, _, rfl, Nat.le_of_ble_eq_true rfl, fun _ => rfl⟩
theorem EncodingShape.ldL_C : EncodingShape.Statement .ldL_C := ⟨_, _, rfl, Nat.le_of_ble_eq_true rfl, fun _ => rfl⟩
theorem EncodingShape.ldL_D : EncodingShape.Statement .ldL_D := ⟨_, _, rfl, Nat.le_of_ble_eq_true rfl, fun _ => rfl⟩
theorem EncodingShape.ldL_E : EncodingShape.Statement .ldL_E := ⟨_, _, rfl, Nat.le_of_ble_eq_true rfl, fun _ => rfl⟩
theorem EncodingShape.ldL_H : EncodingShape.Statement .ldL_H := ⟨_, _, rfl, Nat.le_of_ble_eq_true rfl, fun _ => rfl⟩
theorem EncodingShape.ldL_L : EncodingShape.Statement .ldL_L := ⟨_, _, rfl, Nat.le_of_ble_eq_true rfl, fun _ => rfl⟩
theorem EncodingShape.ldL_atHL : EncodingShape.Statement .ldL_atHL := ⟨_, _, rfl, Nat.le_of_ble_eq_true rfl, fun _ => rfl⟩
theorem EncodingShape.ldL_A : EncodingShape.Statement .ldL_A := ⟨_, _, rfl, Nat.le_of_ble_eq_true rfl, fun _ => rfl⟩
theorem EncodingShape.ldAtHL_B : EncodingShape.Statement .ldAtHL_B := ⟨_, _, rfl, Nat.le_of_ble_eq_true rfl, fun _ => rfl⟩
theorem EncodingShape.ldAtHL_C : EncodingShape.Statement .ldAtHL_C := ⟨_, _, rfl, Nat.le_of_ble_eq_true rfl, fun _ => rfl⟩
theorem EncodingShape.ldAtHL_D : EncodingShape.Statement .ldAtHL_D := ⟨_, _, rfl, Nat.le_of_ble_eq_true rfl, fun _ => rfl⟩
theorem EncodingShape.ldAtHL_E : EncodingShape.Statement .ldAtHL_E := ⟨_, _, rfl, Nat.le_of_ble_eq_true rfl, fun _ => rfl⟩
theorem EncodingShape.ldAtHL_H : EncodingShape.Statement .ldAtHL_H := ⟨_, _, rfl, Nat.le_of_ble_eq_true rfl, fun _ => rfl⟩
theorem EncodingShape.ldAtHL_L : EncodingShape.Statement .ldAtHL_L := ⟨_, _, rfl, Nat.le_of_ble_eq_true rfl, fun _ => rfl⟩
theorem EncodingShape.halt : EncodingShape.Statement .halt := ⟨_, _, rfl, Nat.le_of_ble_eq_true rfl, fun _ => rfl⟩
theorem EncodingShape.ldAtHL_A : EncodingShape.Statement .ldAtHL_A := ⟨_, _, rfl, Nat.le_of_ble_eq_true rfl, fun _ => rfl⟩
theorem EncodingShape.ldA_B : EncodingShape.Statement .ldA_B := ⟨_, _, rfl, Nat.le_of_ble_eq_true rfl, fun _ => rfl⟩
theorem EncodingShape.ldA_C : EncodingShape.Statement .ldA_C := ⟨_, _, rfl, Nat.le_of_ble_eq_true rfl, fun _ => rfl⟩
theorem EncodingShape.ldA_D : EncodingShape.Statement .ldA_D := ⟨_, _, rfl, Nat.le_of_ble_eq_true rfl, fun _ => rfl⟩
theorem EncodingShape.ldA_E : EncodingShape.Statement .ldA_E := ⟨_, _, rfl, Nat.le_of_ble_eq_true rfl, fun _ => rfl⟩
theorem EncodingShape.ldA_H : EncodingShape.Statement .ldA_H := ⟨_, _, rfl, Nat.le_of_ble_eq_true rfl, fun _ => rfl⟩
theorem EncodingShape.ldA_L : EncodingShape.Statement .ldA_L := ⟨_, _, rfl, Nat.le_of_ble_eq_true rfl, fun _ => rfl⟩
theorem EncodingShape.ldA_atHL : EncodingShape.Statement .ldA_atHL := ⟨_, _, rfl, Nat.le_of_ble_eq_true rfl, fun _ => rfl⟩
theorem EncodingShape.ldA_A : EncodingShape.Statement .ldA_A := ⟨_, _, rfl, Nat.le_of_ble_eq_true rfl, fun _ => rfl⟩
theorem EncodingShape.addA_B : EncodingShape.Statement .addA_B := ⟨_, _, rfl, Nat.le_of_ble_eq_true rfl, fun _ => rfl⟩
theorem EncodingShape.addA_C : EncodingShape.Statement .addA_C := ⟨_, _, rfl, Nat.le_of_ble_eq_true rfl, fun _ => rfl⟩
theorem EncodingShape.addA_D : EncodingShape.Statement .addA_D := ⟨_, _, rfl, Nat.le_of_ble_eq_true rfl, fun _ => rfl⟩
theorem EncodingShape.addA_E : EncodingShape.Statement .addA_E := ⟨_, _, rfl, Nat.le_of_ble_eq_true rfl, fun _ => rfl⟩
theorem EncodingShape.addA_H : EncodingShape.Statement .addA_H := ⟨_, _, rfl, Nat.le_of_ble_eq_true rfl, fun _ => rfl⟩
theorem EncodingShape.addA_L : EncodingShape.Statement .addA_L := ⟨_, _, rfl, Nat.le_of_ble_eq_true rfl, fun _ => rfl⟩
theorem EncodingShape.addA_atHL : EncodingShape.Statement .addA_atHL := ⟨_, _, rfl, Nat.le_of_ble_eq_true rfl, fun _ => rfl⟩
theorem EncodingShape.addA_A : EncodingShape.Statement .addA_A := ⟨_, _, rfl, Nat.le_of_ble_eq_true rfl, fun _ => rfl⟩
theorem EncodingShape.adcA_B : EncodingShape.Statement .adcA_B := ⟨_, _, rfl, Nat.le_of_ble_eq_true rfl, fun _ => rfl⟩
theorem EncodingShape.adcA_C : EncodingShape.Statement .adcA_C := ⟨_, _, rfl, Nat.le_of_ble_eq_true rfl, fun _ => rfl⟩
theorem EncodingShape.adcA_D : EncodingShape.Statement .adcA_D := ⟨_, _, rfl, Nat.le_of_ble_eq_true rfl, fun _ => rfl⟩
theorem EncodingShape.adcA_E : EncodingShape.Statement .adcA_E := ⟨_, _, rfl, Nat.le_of_ble_eq_true rfl, fun _ => rfl⟩
theorem EncodingShape.adcA_H : EncodingShape.Statement .adcA_H := ⟨_, _, rfl, Nat.le_of_ble_eq_true rfl, fun _ => rfl⟩
theorem EncodingShape.adcA_L : EncodingShape.Statement .adcA_L := ⟨_, _, rfl, Nat.le_of_ble_eq_true rfl, fun _ => rfl⟩
theorem EncodingShape.adcA_atHL : EncodingShape.Statement .adcA_atHL := ⟨_, _, rfl, Nat.le_of_ble_eq_true rfl, fun _ => rfl⟩
theorem EncodingShape.adcA_A : EncodingShape.Statement .adcA_A := ⟨_, _, rfl, Nat.le_of_ble_eq_true rfl, fun _ => rfl⟩
theorem EncodingShape.subB : EncodingShape.Statement .subB := ⟨_, _, rfl, Nat.le_of_ble_eq_true rfl, fun _ => rfl⟩
theorem EncodingShape.subC : EncodingShape.Statement .subC := ⟨_, _, rfl, Nat.le_of_ble_eq_true rfl, fun _ => rfl⟩
theorem EncodingShape.subD : EncodingShape.Statement .subD := ⟨_, _, rfl, Nat.le_of_ble_eq_true rfl, fun _ => rfl⟩
theorem EncodingShape.subE : EncodingShape.Statement .subE := ⟨_, _, rfl, Nat.le_of_ble_eq_true rfl, fun _ => rfl⟩
theorem EncodingShape.subH : EncodingShape.Statement .subH := ⟨_, _, rfl, Nat.le_of_ble_eq_true rfl, fun _ => rfl⟩
theorem EncodingShape.subL : EncodingShape.Statement .subL := ⟨_, _, rfl, Nat.le_of_ble_eq_true rfl, fun _ => rfl⟩
theorem EncodingShape.subAtHL : EncodingShape.Statement .subAtHL := ⟨_, _, rfl, Nat.le_of_ble_eq_true rfl, fun _ => rfl⟩
theorem EncodingShape.subA : EncodingShape.Statement .subA := ⟨_, _, rfl, Nat.le_of_ble_eq_true rfl, fun _ => rfl⟩
theorem EncodingShape.sbcA_B : EncodingShape.Statement .sbcA_B := ⟨_, _, rfl, Nat.le_of_ble_eq_true rfl, fun _ => rfl⟩
theorem EncodingShape.sbcA_C : EncodingShape.Statement .sbcA_C := ⟨_, _, rfl, Nat.le_of_ble_eq_true rfl, fun _ => rfl⟩
theorem EncodingShape.sbcA_D : EncodingShape.Statement .sbcA_D := ⟨_, _, rfl, Nat.le_of_ble_eq_true rfl, fun _ => rfl⟩
theorem EncodingShape.sbcA_E : EncodingShape.Statement .sbcA_E := ⟨_, _, rfl, Nat.le_of_ble_eq_true rfl, fun _ => rfl⟩
theorem EncodingShape.sbcA_H : EncodingShape.Statement .sbcA_H := ⟨_, _, rfl, Nat.le_of_ble_eq_true rfl, fun _ => rfl⟩
theorem EncodingShape.sbcA_L : EncodingShape.Statement .sbcA_L := ⟨_, _, rfl, Nat.le_of_ble_eq_true rfl, fun _ => rfl⟩
theorem EncodingShape.sbcA_atHL : EncodingShape.Statement .sbcA_atHL := ⟨_, _, rfl, Nat.le_of_ble_eq_true rfl, fun _ => rfl⟩
theorem EncodingShape.sbcA_A : EncodingShape.Statement .sbcA_A := ⟨_, _, rfl, Nat.le_of_ble_eq_true rfl, fun _ => rfl⟩
theorem EncodingShape.andB : EncodingShape.Statement .andB := ⟨_, _, rfl, Nat.le_of_ble_eq_true rfl, fun _ => rfl⟩
theorem EncodingShape.andC : EncodingShape.Statement .andC := ⟨_, _, rfl, Nat.le_of_ble_eq_true rfl, fun _ => rfl⟩
theorem EncodingShape.andD : EncodingShape.Statement .andD := ⟨_, _, rfl, Nat.le_of_ble_eq_true rfl, fun _ => rfl⟩
theorem EncodingShape.andE : EncodingShape.Statement .andE := ⟨_, _, rfl, Nat.le_of_ble_eq_true rfl, fun _ => rfl⟩
theorem EncodingShape.andH : EncodingShape.Statement .andH := ⟨_, _, rfl, Nat.le_of_ble_eq_true rfl, fun _ => rfl⟩
theorem EncodingShape.andL : EncodingShape.Statement .andL := ⟨_, _, rfl, Nat.le_of_ble_eq_true rfl, fun _ => rfl⟩
theorem EncodingShape.andAtHL : EncodingShape.Statement .andAtHL := ⟨_, _, rfl, Nat.le_of_ble_eq_true rfl, fun _ => rfl⟩
theorem EncodingShape.andA : EncodingShape.Statement .andA := ⟨_, _, rfl, Nat.le_of_ble_eq_true rfl, fun _ => rfl⟩
theorem EncodingShape.xorB : EncodingShape.Statement .xorB := ⟨_, _, rfl, Nat.le_of_ble_eq_true rfl, fun _ => rfl⟩
theorem EncodingShape.xorC : EncodingShape.Statement .xorC := ⟨_, _, rfl, Nat.le_of_ble_eq_true rfl, fun _ => rfl⟩
theorem EncodingShape.xorD : EncodingShape.Statement .xorD := ⟨_, _, rfl, Nat.le_of_ble_eq_true rfl, fun _ => rfl⟩
theorem EncodingShape.xorE : EncodingShape.Statement .xorE := ⟨_, _, rfl, Nat.le_of_ble_eq_true rfl, fun _ => rfl⟩
theorem EncodingShape.xorH : EncodingShape.Statement .xorH := ⟨_, _, rfl, Nat.le_of_ble_eq_true rfl, fun _ => rfl⟩
theorem EncodingShape.xorL : EncodingShape.Statement .xorL := ⟨_, _, rfl, Nat.le_of_ble_eq_true rfl, fun _ => rfl⟩
theorem EncodingShape.xorAtHL : EncodingShape.Statement .xorAtHL := ⟨_, _, rfl, Nat.le_of_ble_eq_true rfl, fun _ => rfl⟩
theorem EncodingShape.xorA : EncodingShape.Statement .xorA := ⟨_, _, rfl, Nat.le_of_ble_eq_true rfl, fun _ => rfl⟩
theorem EncodingShape.orB : EncodingShape.Statement .orB := ⟨_, _, rfl, Nat.le_of_ble_eq_true rfl, fun _ => rfl⟩
theorem EncodingShape.orC : EncodingShape.Statement .orC := ⟨_, _, rfl, Nat.le_of_ble_eq_true rfl, fun _ => rfl⟩
theorem EncodingShape.orD : EncodingShape.Statement .orD := ⟨_, _, rfl, Nat.le_of_ble_eq_true rfl, fun _ => rfl⟩
theorem EncodingShape.orE : EncodingShape.Statement .orE := ⟨_, _, rfl, Nat.le_of_ble_eq_true rfl, fun _ => rfl⟩
theorem EncodingShape.orH : EncodingShape.Statement .orH := ⟨_, _, rfl, Nat.le_of_ble_eq_true rfl, fun _ => rfl⟩
theorem EncodingShape.orL : EncodingShape.Statement .orL := ⟨_, _, rfl, Nat.le_of_ble_eq_true rfl, fun _ => rfl⟩
theorem EncodingShape.orAtHL : EncodingShape.Statement .orAtHL := ⟨_, _, rfl, Nat.le_of_ble_eq_true rfl, fun _ => rfl⟩
theorem EncodingShape.orA : EncodingShape.Statement .orA := ⟨_, _, rfl, Nat.le_of_ble_eq_true rfl, fun _ => rfl⟩
theorem EncodingShape.cpB : EncodingShape.Statement .cpB := ⟨_, _, rfl, Nat.le_of_ble_eq_true rfl, fun _ => rfl⟩
theorem EncodingShape.cpC : EncodingShape.Statement .cpC := ⟨_, _, rfl, Nat.le_of_ble_eq_true rfl, fun _ => rfl⟩
theorem EncodingShape.cpD : EncodingShape.Statement .cpD := ⟨_, _, rfl, Nat.le_of_ble_eq_true rfl, fun _ => rfl⟩
theorem EncodingShape.cpE : EncodingShape.Statement .cpE := ⟨_, _, rfl, Nat.le_of_ble_eq_true rfl, fun _ => rfl⟩
theorem EncodingShape.cpH : EncodingShape.Statement .cpH := ⟨_, _, rfl, Nat.le_of_ble_eq_true rfl, fun _ => rfl⟩
theorem EncodingShape.cpL : EncodingShape.Statement .cpL := ⟨_, _, rfl, Nat.le_of_ble_eq_true rfl, fun _ => rfl⟩
theorem EncodingShape.cpAtHL : EncodingShape.Statement .cpAtHL := ⟨_, _, rfl, Nat.le_of_ble_eq_true rfl, fun _ => rfl⟩
theorem EncodingShape.cpA : EncodingShape.Statement .cpA := ⟨_, _, rfl, Nat.le_of_ble_eq_true rfl, fun _ => rfl⟩
theorem EncodingShape.retNZ : EncodingShape.Statement .retNZ := ⟨_, _, rfl, Nat.le_of_ble_eq_true rfl, fun _ => rfl⟩
theorem EncodingShape.popBC : EncodingShape.Statement .popBC := ⟨_, _, rfl, Nat.le_of_ble_eq_true rfl, fun _ => rfl⟩
theorem EncodingShape.jpNZ_nn (nn : Word) : EncodingShape.Statement (.jpNZ_nn nn) := ⟨_, _, rfl, Nat.le_of_ble_eq_true rfl, fun _ => rfl⟩
theorem EncodingShape.jp_nn (nn : Word) : EncodingShape.Statement (.jp_nn nn) := ⟨_, _, rfl, Nat.le_of_ble_eq_true rfl, fun _ => rfl⟩
theorem EncodingShape.callNZ_nn (nn : Word) : EncodingShape.Statement (.callNZ_nn nn) := ⟨_, _, rfl, Nat.le_of_ble_eq_true rfl, fun _ => rfl⟩
theorem EncodingShape.pushBC : EncodingShape.Statement .pushBC := ⟨_, _, rfl, Nat.le_of_ble_eq_true rfl, fun _ => rfl⟩
theorem EncodingShape.addA_n (n : Byte) : EncodingShape.Statement (.addA_n n) := ⟨_, _, rfl, Nat.le_of_ble_eq_true rfl, fun _ => rfl⟩
theorem EncodingShape.rst00 : EncodingShape.Statement .rst00 := ⟨_, _, rfl, Nat.le_of_ble_eq_true rfl, fun _ => rfl⟩
theorem EncodingShape.retZ : EncodingShape.Statement .retZ := ⟨_, _, rfl, Nat.le_of_ble_eq_true rfl, fun _ => rfl⟩
theorem EncodingShape.ret : EncodingShape.Statement .ret := ⟨_, _, rfl, Nat.le_of_ble_eq_true rfl, fun _ => rfl⟩
theorem EncodingShape.jpZ_nn (nn : Word) : EncodingShape.Statement (.jpZ_nn nn) := ⟨_, _, rfl, Nat.le_of_ble_eq_true rfl, fun _ => rfl⟩
theorem EncodingShape.prefixCB : EncodingShape.Statement .prefixCB := ⟨_, _, rfl, Nat.le_of_ble_eq_true rfl, fun h => absurd h (by decide)⟩
theorem EncodingShape.callZ_nn (nn : Word) : EncodingShape.Statement (.callZ_nn nn) := ⟨_, _, rfl, Nat.le_of_ble_eq_true rfl, fun _ => rfl⟩
theorem EncodingShape.call_nn (nn : Word) : EncodingShape.Statement (.call_nn nn) := ⟨_, _, rfl, Nat.le_of_ble_eq_true rfl, fun _ => rfl⟩
theorem EncodingShape.adcA_n (n : Byte) : EncodingShape.Statement (.adcA_n n) := ⟨_, _, rfl, Nat.le_of_ble_eq_true rfl, fun _ => rfl⟩
theorem EncodingShape.rst08 : EncodingShape.Statement .rst08 := ⟨_, _, rfl, Nat.le_of_ble_eq_true rfl, fun _ => rfl⟩
theorem EncodingShape.retNC : EncodingShape.Statement .retNC := ⟨_, _, rfl, Nat.le_of_ble_eq_true rfl, fun _ => rfl⟩
theorem EncodingShape.popDE : EncodingShape.Statement .popDE := ⟨_, _, rfl, Nat.le_of_ble_eq_true rfl, fun _ => rfl⟩
theorem EncodingShape.jpNC_nn (nn : Word) : EncodingShape.Statement (.jpNC_nn nn) := ⟨_, _, rfl, Nat.le_of_ble_eq_true rfl, fun _ => rfl⟩
theorem EncodingShape.illegalD3 : EncodingShape.Statement .illegalD3 := ⟨_, _, rfl, Nat.le_of_ble_eq_true rfl, fun _ => rfl⟩
theorem EncodingShape.callNC_nn (nn : Word) : EncodingShape.Statement (.callNC_nn nn) := ⟨_, _, rfl, Nat.le_of_ble_eq_true rfl, fun _ => rfl⟩
theorem EncodingShape.pushDE : EncodingShape.Statement .pushDE := ⟨_, _, rfl, Nat.le_of_ble_eq_true rfl, fun _ => rfl⟩
theorem EncodingShape.sub_n (n : Byte) : EncodingShape.Statement (.sub_n n) := ⟨_, _, rfl, Nat.le_of_ble_eq_true rfl, fun _ => rfl⟩
theorem EncodingShape.rst10 : EncodingShape.Statement .rst10 := ⟨_, _, rfl, Nat.le_of_ble_eq_true rfl, fun _ => rfl⟩
theorem EncodingShape.retC : EncodingShape.Statement .retC := ⟨_, _, rfl, Nat.le_of_ble_eq_true rfl, fun _ => rfl⟩
theorem EncodingShape.reti : EncodingShape.Statement .reti := ⟨_, _, rfl, Nat.le_of_ble_eq_true rfl, fun _ => rfl⟩
theorem EncodingShape.jpC_nn (nn : Word) : EncodingShape.Statement (.jpC_nn nn) := ⟨_, _, rfl, Nat.le_of_ble_eq_true rfl, fun _ => rfl⟩
theorem EncodingShape.illegalDB : EncodingShape.Statement .illegalDB := ⟨_, _, rfl, Nat.le_of_ble_eq_true rfl, fun _ => rfl⟩
theorem EncodingShape.callC_nn (nn : Word) : EncodingShape.Statement (.callC_nn nn) := ⟨_, _, rfl, Nat.le_of_ble_eq_true rfl, fun _ => rfl⟩
theorem EncodingShape.illegalDD : EncodingShape.Statement .illegalDD := ⟨_, _, rfl, Nat.le_of_ble_eq_true rfl, fun _ => rfl⟩
theorem EncodingShape.sbcA_n (n : Byte) : EncodingShape.Statement (.sbcA_n n) := ⟨_, _, rfl, Nat.le_of_ble_eq_true rfl, fun _ => rfl⟩
theorem EncodingShape.rst18 : EncodingShape.Statement .rst18 := ⟨_, _, rfl, Nat.le_of_ble_eq_true rfl, fun _ => rfl⟩
theorem EncodingShape.ldhAtN_A (n : Byte) : EncodingShape.Statement (.ldhAtN_A n) := ⟨_, _, rfl, Nat.le_of_ble_eq_true rfl, fun _ => rfl⟩
theorem EncodingShape.popHL : EncodingShape.Statement .popHL := ⟨_, _, rfl, Nat.le_of_ble_eq_true rfl, fun _ => rfl⟩
theorem EncodingShape.ldhAtC_A : EncodingShape.Statement .ldhAtC_A := ⟨_, _, rfl, Nat.le_of_ble_eq_true rfl, fun _ => rfl⟩
theorem EncodingShape.illegalE3 : EncodingShape.Statement .illegalE3 := ⟨_, _, rfl, Nat.le_of_ble_eq_true rfl, fun _ => rfl⟩
theorem EncodingShape.illegalE4 : EncodingShape.Statement .illegalE4 := ⟨_, _, rfl, Nat.le_of_ble_eq_true rfl, fun _ => rfl⟩
theorem EncodingShape.pushHL : EncodingShape.Statement .pushHL := ⟨_, _, rfl, Nat.le_of_ble_eq_true rfl, fun _ => rfl⟩
theorem EncodingShape.and_n (n : Byte) : EncodingShape.Statement (.and_n n) := ⟨_, _, rfl, Nat.le_of_ble_eq_true rfl, fun _ => rfl⟩
theorem EncodingShape.rst20 : EncodingShape.Statement .rst20 := ⟨_, _, rfl, Nat.le_of_ble_eq_true rfl, fun _ => rfl⟩
theorem EncodingShape.addSP_e (e : Byte) : EncodingShape.Statement (.addSP_e e) := ⟨_, _, rfl, Nat.le_of_ble_eq_true rfl, fun _ => rfl⟩
theorem EncodingShape.jpHL : EncodingShape.Statement .jpHL := ⟨_, _, rfl, Nat.le_of_ble_eq_true rfl, fun _ => rfl⟩
theorem EncodingShape.ldAtNN_A (nn : Word) : EncodingShape.Statement (.ldAtNN_A nn) := ⟨_, _, rfl, Nat.le_of_ble_eq_true rfl, fun _ => rfl⟩
theorem EncodingShape.illegalEB : EncodingShape.Statement .illegalEB := ⟨_, _, rfl, Nat.le_of_ble_eq_true rfl, fun _ => rfl⟩
theorem EncodingShape.illegalEC : EncodingShape.Statement .illegalEC := ⟨_, _, rfl, Nat.le_of_ble_eq_true rfl, fun _ => rfl⟩
theorem EncodingShape.illegalED : EncodingShape.Statement .illegalED := ⟨_, _, rfl, Nat.le_of_ble_eq_true rfl, fun _ => rfl⟩
theorem EncodingShape.xor_n (n : Byte) : EncodingShape.Statement (.xor_n n) := ⟨_, _, rfl, Nat.le_of_ble_eq_true rfl, fun _ => rfl⟩
theorem EncodingShape.rst28 : EncodingShape.Statement .rst28 := ⟨_, _, rfl, Nat.le_of_ble_eq_true rfl, fun _ => rfl⟩
theorem EncodingShape.ldhA_atN (n : Byte) : EncodingShape.Statement (.ldhA_atN n) := ⟨_, _, rfl, Nat.le_of_ble_eq_true rfl, fun _ => rfl⟩
theorem EncodingShape.popAF : EncodingShape.Statement .popAF := ⟨_, _, rfl, Nat.le_of_ble_eq_true rfl, fun _ => rfl⟩
theorem EncodingShape.ldhA_atC : EncodingShape.Statement .ldhA_atC := ⟨_, _, rfl, Nat.le_of_ble_eq_true rfl, fun _ => rfl⟩
theorem EncodingShape.di : EncodingShape.Statement .di := ⟨_, _, rfl, Nat.le_of_ble_eq_true rfl, fun _ => rfl⟩
theorem EncodingShape.illegalF4 : EncodingShape.Statement .illegalF4 := ⟨_, _, rfl, Nat.le_of_ble_eq_true rfl, fun _ => rfl⟩
theorem EncodingShape.pushAF : EncodingShape.Statement .pushAF := ⟨_, _, rfl, Nat.le_of_ble_eq_true rfl, fun _ => rfl⟩
theorem EncodingShape.or_n (n : Byte) : EncodingShape.Statement (.or_n n) := ⟨_, _, rfl, Nat.le_of_ble_eq_true rfl, fun _ => rfl⟩
theorem EncodingShape.rst30 : EncodingShape.Statement .rst30 := ⟨_, _, rfl, Nat.le_of_ble_eq_true rfl, fun _ => rfl⟩
theorem EncodingShape.ldHL_SPe (e : Byte) : EncodingShape.Statement (.ldHL_SPe e) := ⟨_, _, rfl, Nat.le_of_ble_eq_true rfl, fun _ => rfl⟩
theorem EncodingShape.ldSP_HL : EncodingShape.Statement .ldSP_HL := ⟨_, _, rfl, Nat.le_of_ble_eq_true rfl, fun _ => rfl⟩
theorem EncodingShape.ldA_atNN (nn : Word) : EncodingShape.Statement (.ldA_atNN nn) := ⟨_, _, rfl, Nat.le_of_ble_eq_true rfl, fun _ => rfl⟩
theorem EncodingShape.ei : EncodingShape.Statement .ei := ⟨_, _, rfl, Nat.le_of_ble_eq_true rfl, fun _ => rfl⟩
theorem EncodingShape.illegalFC : EncodingShape.Statement .illegalFC := ⟨_, _, rfl, Nat.le_of_ble_eq_true rfl, fun _ => rfl⟩
theorem EncodingShape.illegalFD : EncodingShape.Statement .illegalFD := ⟨_, _, rfl, Nat.le_of_ble_eq_true rfl, fun _ => rfl⟩
theorem EncodingShape.cp_n (n : Byte) : EncodingShape.Statement (.cp_n n) := ⟨_, _, rfl, Nat.le_of_ble_eq_true rfl, fun _ => rfl⟩
theorem EncodingShape.rst38 : EncodingShape.Statement .rst38 := ⟨_, _, rfl, Nat.le_of_ble_eq_true rfl, fun _ => rfl⟩
theorem EncodingShape.rlcB : EncodingShape.Statement .rlcB := ⟨_, _, rfl, Nat.le_of_ble_eq_true rfl, fun _ => rfl⟩
theorem EncodingShape.rlcC : EncodingShape.Statement .rlcC := ⟨_, _, rfl, Nat.le_of_ble_eq_true rfl, fun _ => rfl⟩
theorem EncodingShape.rlcD : EncodingShape.Statement .rlcD := ⟨_, _, rfl, Nat.le_of_ble_eq_true rfl, fun _ => rfl⟩
theorem EncodingShape.rlcE : EncodingShape.Statement .rlcE := ⟨_, _, rfl, Nat.le_of_ble_eq_true rfl, fun _ => rfl⟩
theorem EncodingShape.rlcH : EncodingShape.Statement .rlcH := ⟨_, _, rfl, Nat.le_of_ble_eq_true rfl, fun _ => rfl⟩
theorem EncodingShape.rlcL : EncodingShape.Statement .rlcL := ⟨_, _, rfl, Nat.le_of_ble_eq_true rfl, fun _ => rfl⟩
theorem EncodingShape.rlcAtHL : EncodingShape.Statement .rlcAtHL := ⟨_, _, rfl, Nat.le_of_ble_eq_true rfl, fun _ => rfl⟩
theorem EncodingShape.rlcA : EncodingShape.Statement .rlcA := ⟨_, _, rfl, Nat.le_of_ble_eq_true rfl, fun _ => rfl⟩
theorem EncodingShape.rrcB : EncodingShape.Statement .rrcB := ⟨_, _, rfl, Nat.le_of_ble_eq_true rfl, fun _ => rfl⟩
theorem EncodingShape.rrcC : EncodingShape.Statement .rrcC := ⟨_, _, rfl, Nat.le_of_ble_eq_true rfl, fun _ => rfl⟩
theorem EncodingShape.rrcD : EncodingShape.Statement .rrcD := ⟨_, _, rfl, Nat.le_of_ble_eq_true rfl, fun _ => rfl⟩
theorem EncodingShape.rrcE : EncodingShape.Statement .rrcE := ⟨_, _, rfl, Nat.le_of_ble_eq_true rfl, fun _ => rfl⟩
theorem EncodingShape.rrcH : EncodingShape.Statement .rrcH := ⟨_, _, rfl, Nat.le_of_ble_eq_true rfl, fun _ => rfl⟩
theorem EncodingShape.rrcL : EncodingShape.Statement .rrcL := ⟨_, _, rfl, Nat.le_of_ble_eq_true rfl, fun _ => rfl⟩
theorem EncodingShape.rrcAtHL : EncodingShape.Statement .rrcAtHL := ⟨_, _, rfl, Nat.le_of_ble_eq_true rfl, fun _ => rfl⟩
theorem EncodingShape.rrcA : EncodingShape.Statement .rrcA := ⟨_, _, rfl, Nat.le_of_ble_eq_true rfl, fun _ => rfl⟩
theorem EncodingShape.rlB : EncodingShape.Statement .rlB := ⟨_, _, rfl, Nat.le_of_ble_eq_true rfl, fun _ => rfl⟩
theorem EncodingShape.rlC : EncodingShape.Statement .rlC := ⟨_, _, rfl, Nat.le_of_ble_eq_true rfl, fun _ => rfl⟩
theorem EncodingShape.rlD : EncodingShape.Statement .rlD := ⟨_, _, rfl, Nat.le_of_ble_eq_true rfl, fun _ => rfl⟩
theorem EncodingShape.rlE : EncodingShape.Statement .rlE := ⟨_, _, rfl, Nat.le_of_ble_eq_true rfl, fun _ => rfl⟩
theorem EncodingShape.rlH : EncodingShape.Statement .rlH := ⟨_, _, rfl, Nat.le_of_ble_eq_true rfl, fun _ => rfl⟩
theorem EncodingShape.rlL : EncodingShape.Statement .rlL := ⟨_, _, rfl, Nat.le_of_ble_eq_true rfl, fun _ => rfl⟩
theorem EncodingShape.rlAtHL : EncodingShape.Statement .rlAtHL := ⟨_, _, rfl, Nat.le_of_ble_eq_true rfl, fun _ => rfl⟩
theorem EncodingShape.rlA : EncodingShape.Statement .rlA := ⟨_, _, rfl, Nat.le_of_ble_eq_true rfl, fun _ => rfl⟩
theorem EncodingShape.rrB : EncodingShape.Statement .rrB := ⟨_, _, rfl, Nat.le_of_ble_eq_true rfl, fun _ => rfl⟩
theorem EncodingShape.rrC : EncodingShape.Statement .rrC := ⟨_, _, rfl, Nat.le_of_ble_eq_true rfl, fun _ => rfl⟩
theorem EncodingShape.rrD : EncodingShape.Statement .rrD := ⟨_, _, rfl, Nat.le_of_ble_eq_true rfl, fun _ => rfl⟩
theorem EncodingShape.rrE : EncodingShape.Statement .rrE := ⟨_, _, rfl, Nat.le_of_ble_eq_true rfl, fun _ => rfl⟩
theorem EncodingShape.rrH : EncodingShape.Statement .rrH := ⟨_, _, rfl, Nat.le_of_ble_eq_true rfl, fun _ => rfl⟩
theorem EncodingShape.rrL : EncodingShape.Statement .rrL := ⟨_, _, rfl, Nat.le_of_ble_eq_true rfl, fun _ => rfl⟩
theorem EncodingShape.rrAtHL : EncodingShape.Statement .rrAtHL := ⟨_, _, rfl, Nat.le_of_ble_eq_true rfl, fun _ => rfl⟩
theorem EncodingShape.rrA : EncodingShape.Statement .rrA := ⟨_, _, rfl, Nat.le_of_ble_eq_true rfl, fun _ => rfl⟩
theorem EncodingShape.slaB : EncodingShape.Statement .slaB := ⟨_, _, rfl, Nat.le_of_ble_eq_true rfl, fun _ => rfl⟩
theorem EncodingShape.slaC : EncodingShape.Statement .slaC := ⟨_, _, rfl, Nat.le_of_ble_eq_true rfl, fun _ => rfl⟩
theorem EncodingShape.slaD : EncodingShape.Statement .slaD := ⟨_, _, rfl, Nat.le_of_ble_eq_true rfl, fun _ => rfl⟩
theorem EncodingShape.slaE : EncodingShape.Statement .slaE := ⟨_, _, rfl, Nat.le_of_ble_eq_true rfl, fun _ => rfl⟩
theorem EncodingShape.slaH : EncodingShape.Statement .slaH := ⟨_, _, rfl, Nat.le_of_ble_eq_true rfl, fun _ => rfl⟩
theorem EncodingShape.slaL : EncodingShape.Statement .slaL := ⟨_, _, rfl, Nat.le_of_ble_eq_true rfl, fun _ => rfl⟩
theorem EncodingShape.slaAtHL : EncodingShape.Statement .slaAtHL := ⟨_, _, rfl, Nat.le_of_ble_eq_true rfl, fun _ => rfl⟩
theorem EncodingShape.slaA : EncodingShape.Statement .slaA := ⟨_, _, rfl, Nat.le_of_ble_eq_true rfl, fun _ => rfl⟩
theorem EncodingShape.sraB : EncodingShape.Statement .sraB := ⟨_, _, rfl, Nat.le_of_ble_eq_true rfl, fun _ => rfl⟩
theorem EncodingShape.sraC : EncodingShape.Statement .sraC := ⟨_, _, rfl, Nat.le_of_ble_eq_true rfl, fun _ => rfl⟩
theorem EncodingShape.sraD : EncodingShape.Statement .sraD := ⟨_, _, rfl, Nat.le_of_ble_eq_true rfl, fun _ => rfl⟩
theorem EncodingShape.sraE : EncodingShape.Statement .sraE := ⟨_, _, rfl, Nat.le_of_ble_eq_true rfl, fun _ => rfl⟩
theorem EncodingShape.sraH : EncodingShape.Statement .sraH := ⟨_, _, rfl, Nat.le_of_ble_eq_true rfl, fun _ => rfl⟩
theorem EncodingShape.sraL : EncodingShape.Statement .sraL := ⟨_, _, rfl, Nat.le_of_ble_eq_true rfl, fun _ => rfl⟩
theorem EncodingShape.sraAtHL : EncodingShape.Statement .sraAtHL := ⟨_, _, rfl, Nat.le_of_ble_eq_true rfl, fun _ => rfl⟩
theorem EncodingShape.sraA : EncodingShape.Statement .sraA := ⟨_, _, rfl, Nat.le_of_ble_eq_true rfl, fun _ => rfl⟩
theorem EncodingShape.swapB : EncodingShape.Statement .swapB := ⟨_, _, rfl, Nat.le_of_ble_eq_true rfl, fun _ => rfl⟩
theorem EncodingShape.swapC : EncodingShape.Statement .swapC := ⟨_, _, rfl, Nat.le_of_ble_eq_true rfl, fun _ => rfl⟩
theorem EncodingShape.swapD : EncodingShape.Statement .swapD := ⟨_, _, rfl, Nat.le_of_ble_eq_true rfl, fun _ => rfl⟩
theorem EncodingShape.swapE : EncodingShape.Statement .swapE := ⟨_, _, rfl, Nat.le_of_ble_eq_true rfl, fun _ => rfl⟩
theorem EncodingShape.swapH : EncodingShape.Statement .swapH := ⟨_, _, rfl, Nat.le_of_ble_eq_true rfl, fun _ => rfl⟩
theorem EncodingShape.swapL : EncodingShape.Statement .swapL := ⟨_, _, rfl, Nat.le_of_ble_eq_true rfl, fun _ => rfl⟩
theorem EncodingShape.swapAtHL : EncodingShape.Statement .swapAtHL := ⟨_, _, rfl, Nat.le_of_ble_eq_true rfl, fun _ => rfl⟩
theorem EncodingShape.swapA : EncodingShape.Statement .swapA := ⟨_, _, rfl, Nat.le_of_ble_eq_true rfl, fun _ => rfl⟩
theorem EncodingShape.srlB : EncodingShape.Statement .srlB := ⟨_, _, rfl, Nat.le_of_ble_eq_true rfl, fun _ => rfl⟩
theorem EncodingShape.srlC : EncodingShape.Statement .srlC := ⟨_, _, rfl, Nat.le_of_ble_eq_true rfl, fun _ => rfl⟩
theorem EncodingShape.srlD : EncodingShape.Statement .srlD := ⟨_, _, rfl, Nat.le_of_ble_eq_true rfl, fun _ => rfl⟩
theorem EncodingShape.srlE : EncodingShape.Statement .srlE := ⟨_, _, rfl, Nat.le_of_ble_eq_true rfl, fun _ => rfl⟩
theorem EncodingShape.srlH : EncodingShape.Statement .srlH := ⟨_, _, rfl, Nat.le_of_ble_eq_true rfl, fun _ => rfl⟩
theorem EncodingShape.srlL : EncodingShape.Statement .srlL := ⟨_, _, rfl, Nat.le_of_ble_eq_true rfl, fun _ => rfl⟩
theorem EncodingShape.srlAtHL : EncodingShape.Statement .srlAtHL := ⟨_, _, rfl, Nat.le_of_ble_eq_true rfl, fun _ => rfl⟩
theorem EncodingShape.srlA : EncodingShape.Statement .srlA := ⟨_, _, rfl, Nat.le_of_ble_eq_true rfl, fun _ => rfl⟩
theorem EncodingShape.bit0_B : EncodingShape.Statement .bit0_B := ⟨_, _, rfl, Nat.le_of_ble_eq_true rfl, fun _ => rfl⟩
theorem EncodingShape.bit0_C : EncodingShape.Statement .bit0_C := ⟨_, _, rfl, Nat.le_of_ble_eq_true rfl, fun _ => rfl⟩
theorem EncodingShape.bit0_D : EncodingShape.Statement .bit0_D := ⟨_, _, rfl, Nat.le_of_ble_eq_true rfl, fun _ => rfl⟩
theorem EncodingShape.bit0_E : EncodingShape.Statement .bit0_E := ⟨_, _, rfl, Nat.le_of_ble_eq_true rfl, fun _ => rfl⟩
theorem EncodingShape.bit0_H : EncodingShape.Statement .bit0_H := ⟨_, _, rfl, Nat.le_of_ble_eq_true rfl, fun _ => rfl⟩
theorem EncodingShape.bit0_L : EncodingShape.Statement .bit0_L := ⟨_, _, rfl, Nat.le_of_ble_eq_true rfl, fun _ => rfl⟩
theorem EncodingShape.bit0_atHL : EncodingShape.Statement .bit0_atHL := ⟨_, _, rfl, Nat.le_of_ble_eq_true rfl, fun _ => rfl⟩
theorem EncodingShape.bit0_A : EncodingShape.Statement .bit0_A := ⟨_, _, rfl, Nat.le_of_ble_eq_true rfl, fun _ => rfl⟩
theorem EncodingShape.bit1_B : EncodingShape.Statement .bit1_B := ⟨_, _, rfl, Nat.le_of_ble_eq_true rfl, fun _ => rfl⟩
theorem EncodingShape.bit1_C : EncodingShape.Statement .bit1_C := ⟨_, _, rfl, Nat.le_of_ble_eq_true rfl, fun _ => rfl⟩
theorem EncodingShape.bit1_D : EncodingShape.Statement .bit1_D := ⟨_, _, rfl, Nat.le_of_ble_eq_true rfl, fun _ => rfl⟩
theorem EncodingShape.bit1_E : EncodingShape.Statement .bit1_E := ⟨_, _, rfl, Nat.le_of_ble_eq_true rfl, fun _ => rfl⟩
theorem EncodingShape.bit1_H : EncodingShape.Statement .bit1_H := ⟨_, _, rfl, Nat.le_of_ble_eq_true rfl, fun _ => rfl⟩
theorem EncodingShape.bit1_L : EncodingShape.Statement .bit1_L := ⟨_, _, rfl, Nat.le_of_ble_eq_true rfl, fun _ => rfl⟩
theorem EncodingShape.bit1_atHL : EncodingShape.Statement .bit1_atHL := ⟨_, _, rfl, Nat.le_of_ble_eq_true rfl, fun _ => rfl⟩
theorem EncodingShape.bit1_A : EncodingShape.Statement .bit1_A := ⟨_, _, rfl, Nat.le_of_ble_eq_true rfl, fun _ => rfl⟩
theorem EncodingShape.bit2_B : EncodingShape.Statement .bit2_B := ⟨_, _, rfl, Nat.le_of_ble_eq_true rfl, fun _ => rfl⟩
theorem EncodingShape.bit2_C : EncodingShape.Statement .bit2_C := ⟨_, _, rfl, Nat.le_of_ble_eq_true rfl, fun _ => rfl⟩
theorem EncodingShape.bit2_D : EncodingShape.Statement .bit2_D := ⟨_, _, rfl, Nat.le_of_ble_eq_true rfl, fun _ => rfl⟩
theorem EncodingShape.bit2_E : EncodingShape.Statement .bit2_E := ⟨_, _, rfl, Nat.le_of_ble_eq_true rfl, fun _ => rfl⟩
theorem EncodingShape.bit2_H : EncodingShape.Statement .bit2_H := ⟨_, _, rfl, Nat.le_of_ble_eq_true rfl, fun _ => rfl⟩
theorem EncodingShape.bit2_L : EncodingShape.Statement .bit2_L := ⟨_, _, rfl, Nat.le_of_ble_eq_true rfl, fun _ => rfl⟩
theorem EncodingShape.bit2_atHL : EncodingShape.Statement .bit2_atHL := ⟨_, _, rfl, Nat.le_of_ble_eq_true rfl, fun _ => rfl⟩
theorem EncodingShape.bit2_A : EncodingShape.Statement .bit2_A := ⟨_, _, rfl, Nat.le_of_ble_eq_true rfl, fun _ => rfl⟩
theorem EncodingShape.bit3_B : EncodingShape.Statement .bit3_B := ⟨_, _, rfl, Nat.le_of_ble_eq_true rfl, fun _ => rfl⟩
theorem EncodingShape.bit3_C : EncodingShape.Statement .bit3_C := ⟨_, _, rfl, Nat.le_of_ble_eq_true rfl, fun _ => rfl⟩
theorem EncodingShape.bit3_D : EncodingShape.Statement .bit3_D := ⟨_, _, rfl, Nat.le_of_ble_eq_true rfl, fun _ => rfl⟩
theorem EncodingShape.bit3_E : EncodingShape.Statement .bit3_E := ⟨_, _, rfl, Nat.le_of_ble_eq_true rfl, fun _ => rfl⟩
theorem EncodingShape.bit3_H : EncodingShape.Statement .bit3_H := ⟨_, _, rfl, Nat.le_of_ble_eq_true rfl, fun _ => rfl⟩
theorem EncodingShape.bit3_L : EncodingShape.Statement .bit3_L := ⟨_, _, rfl, Nat.le_of_ble_eq_true rfl, fun _ => rfl⟩
theorem EncodingShape.bit3_atHL : EncodingShape.Statement .bit3_atHL := ⟨_, _, rfl, Nat.le_of_ble_eq_true rfl, fun _ => rfl⟩
theorem EncodingShape.bit3_A : EncodingShape.Statement .bit3_A := ⟨_, _, rfl, Nat.le_of_ble_eq_true rfl, fun _ => rfl⟩
theorem EncodingShape.bit4_B : EncodingShape.Statement .bit4_B := ⟨_, _, rfl, Nat.le_of_ble_eq_true rfl, fun _ => rfl⟩
theorem EncodingShape.bit4_C : EncodingShape.Statement .bit4_C := ⟨_, _, rfl, Nat.le_of_ble_eq_true rfl, fun _ => rfl⟩
theorem EncodingShape.bit4_D : EncodingShape.Statement .bit4_D := ⟨_, _, rfl, Nat.le_of_ble_eq_true rfl, fun _ => rfl⟩
theorem EncodingShape.bit4_E : EncodingShape.Statement .bit4_E := ⟨_, _, rfl, Nat.le_of_ble_eq_true rfl, fun _ => rfl⟩
theorem EncodingShape.bit4_H : EncodingShape.Statement .bit4_H := ⟨_, _, rfl, Nat.le_of_ble_eq_true rfl, fun _ => rfl⟩
theorem EncodingShape.bit4_L : EncodingShape.Statement .bit4_L := ⟨_, _, rfl, Nat.le_of_ble_eq_true rfl, fun _ => rfl⟩
theorem EncodingShape.bit4_atHL : EncodingShape.Statement .bit4_atHL := ⟨_, _, rfl, Nat.le_of_ble_eq_true rfl, fun _ => rfl⟩
theorem EncodingShape.bit4_A : EncodingShape.Statement .bit4_A := ⟨_, _, rfl, Nat.le_of_ble_eq_true rfl, fun _ => rfl⟩
theorem EncodingShape.bit5_B : EncodingShape.Statement .bit5_B := ⟨_, _, rfl, Nat.le_of_ble_eq_true rfl, fun _ => rfl⟩
theorem EncodingShape.bit5_C : EncodingShape.Statement .bit5_C := ⟨_, _, rfl, Nat.le_of_ble_eq_true rfl, fun _ => rfl⟩
theorem EncodingShape.bit5_D : EncodingShape.Statement .bit5_D := ⟨_, _, rfl, Nat.le_of_ble_eq_true rfl, fun _ => rfl⟩
theorem EncodingShape.bit5_E : EncodingShape.Statement .bit5_E := ⟨_, _, rfl, Nat.le_of_ble_eq_true rfl, fun _ => rfl⟩
theorem EncodingShape.bit5_H : EncodingShape.Statement .bit5_H := ⟨_, _, rfl, Nat.le_of_ble_eq_true rfl, fun _ => rfl⟩
theorem EncodingShape.bit5_L : EncodingShape.Statement .bit5_L := ⟨_, _, rfl, Nat.le_of_ble_eq_true rfl, fun _ => rfl⟩
theorem EncodingShape.bit5_atHL : EncodingShape.Statement .bit5_atHL := ⟨_, _, rfl, Nat.le_of_ble_eq_true rfl, fun _ => rfl⟩
theorem EncodingShape.bit5_A : EncodingShape.Statement .bit5_A := ⟨_, _, rfl, Nat.le_of_ble_eq_true rfl, fun _ => rfl⟩
theorem EncodingShape.bit6_B : EncodingShape.Statement .bit6_B := ⟨_, _, rfl, Nat.le_of_ble_eq_true rfl, fun _ => rfl⟩
theorem EncodingShape.bit6_C : EncodingShape.Statement .bit6_C := ⟨_, _, rfl, Nat.le_of_ble_eq_true rfl, fun _ => rfl⟩
theorem EncodingShape.bit6_D : EncodingShape.Statement .bit6_D := ⟨_, _, rfl, Nat.le_of_ble_eq_true rfl, fun _ => rfl⟩
theorem EncodingShape.bit6_E : EncodingShape.Statement .bit6_E := ⟨_, _, rfl, Nat.le_of_ble_eq_true rfl, fun _ => rfl⟩
theorem EncodingShape.bit6_H : EncodingShape.Statement .bit6_H := ⟨_, _, rfl, Nat.le_of_ble_eq_true rfl, fun _ => rfl⟩
theorem EncodingShape.bit6_L : EncodingShape.Statement .bit6_L := ⟨_, _, rfl, Nat.le_of_ble_eq_true rfl, fun _ => rfl⟩
theorem EncodingShape.bit6_atHL : EncodingShape.Statement .bit6_atHL := ⟨_, _, rfl, Nat.le_of_ble_eq_true rfl, fun _ => rfl⟩
theorem EncodingShape.bit6_A : EncodingShape.Statement .bit6_A := ⟨_, _, rfl, Nat.le_of_ble_eq_true rfl, fun _ => rfl⟩
theorem EncodingShape.bit7_B : EncodingShape.Statement .bit7_B := ⟨_, _, rfl, Nat.le_of_ble_eq_true rfl, fun _ => rfl⟩
theorem EncodingShape.bit7_C : EncodingShape.Statement .bit7_C := ⟨_, _, rfl, Nat.le_of_ble_eq_true rfl, fun _ => rfl⟩
theorem EncodingShape.bit7_D : EncodingShape.Statement .bit7_D := ⟨_, _, rfl, Nat.le_of_ble_eq_true rfl, fun _ => rfl⟩
theorem EncodingShape.bit7_E : EncodingShape.Statement .bit7_E := ⟨_, _, rfl, Nat.le_of_ble_eq_true rfl, fun _ => rfl⟩
theorem EncodingShape.bit7_H : EncodingShape.Statement .bit7_H := ⟨_, _, rfl, Nat.le_of_ble_eq_true rfl, fun _ => rfl⟩
theorem EncodingShape.bit7_L : EncodingShape.Statement .bit7_L := ⟨_, _, rfl, Nat.le_of_ble_eq_true rfl, fun _ => rfl⟩
theorem EncodingShape.bit7_atHL : EncodingShape.Statement .bit7_atHL := ⟨_, _, rfl, Nat.le_of_ble_eq_true rfl, fun _ => rfl⟩
theorem EncodingShape.bit7_A : EncodingShape.Statement .bit7_A := ⟨_, _, rfl, Nat.le_of_ble_eq_true rfl, fun _ => rfl⟩
theorem EncodingShape.res0_B : EncodingShape.Statement .res0_B := ⟨_, _, rfl, Nat.le_of_ble_eq_true rfl, fun _ => rfl⟩
theorem EncodingShape.res0_C : EncodingShape.Statement .res0_C := ⟨_, _, rfl, Nat.le_of_ble_eq_true rfl, fun _ => rfl⟩
theorem EncodingShape.res0_D : EncodingShape.Statement .res0_D := ⟨_, _, rfl, Nat.le_of_ble_eq_true rfl, fun _ => rfl⟩
theorem EncodingShape.res0_E : EncodingShape.Statement .res0_E := ⟨_, _, rfl, Nat.le_of_ble_eq_true rfl, fun _ => rfl⟩
theorem EncodingShape.res0_H : EncodingShape.Statement .res0_H := ⟨_, _, rfl, Nat.le_of_ble_eq_true rfl, fun _ => rfl⟩
theorem EncodingShape.res0_L : EncodingShape.Statement .res0_L := ⟨_, _, rfl, Nat.le_of_ble_eq_true rfl, fun _ => rfl⟩
theorem EncodingShape.res0_atHL : EncodingShape.Statement .res0_atHL := ⟨_, _, rfl, Nat.le_of_ble_eq_true rfl, fun _ => rfl⟩
theorem EncodingShape.res0_A : EncodingShape.Statement .res0_A := ⟨_, _, rfl, Nat.le_of_ble_eq_true rfl, fun _ => rfl⟩
theorem EncodingShape.res1_B : EncodingShape.Statement .res1_B := ⟨_, _, rfl, Nat.le_of_ble_eq_true rfl, fun _ => rfl⟩
theorem EncodingShape.res1_C : EncodingShape.Statement .res1_C := ⟨_, _, rfl, Nat.le_of_ble_eq_true rfl, fun _ => rfl⟩
theorem EncodingShape.res1_D : EncodingShape.Statement .res1_D := ⟨_, _, rfl, Nat.le_of_ble_eq_true rfl, fun _ => rfl⟩
theorem EncodingShape.res1_E : EncodingShape.Statement .res1_E := ⟨_, _, rfl, Nat.le_of_ble_eq_true rfl, fun _ => rfl⟩
theorem EncodingShape.res1_H : EncodingShape.Statement .res1_H := ⟨_, _, rfl, Nat.le_of_ble_eq_true rfl, fun _ => rfl⟩
theorem EncodingShape.res1_L : EncodingShape.Statement .res1_L := ⟨_, _, rfl, Nat.le_of_ble_eq_true rfl, fun _ => rfl⟩
theorem EncodingShape.res1_atHL : EncodingShape.Statement .res1_atHL := ⟨_, _, rfl, Nat.le_of_ble_eq_true rfl, fun _ => rfl⟩
theorem EncodingShape.res1_A : EncodingShape.Statement .res1_A := ⟨_, _, rfl, Nat.le_of_ble_eq_true rfl, fun _ => rfl⟩
theorem EncodingShape.res2_B : EncodingShape.Statement .res2_B := ⟨_, _, rfl, Nat.le_of_ble_eq_true rfl, fun _ => rfl⟩
theorem EncodingShape.res2_C : EncodingShape.Statement .res2_C := ⟨_, _, rfl, Nat.le_of_ble_eq_true rfl, fun _ => rfl⟩
theorem EncodingShape.res2_D : EncodingShape.Statement .res2_D := ⟨_, _, rfl, Nat.le_of_ble_eq_true rfl, fun _ => rfl⟩
theorem EncodingShape.res2_E : EncodingShape.Statement .res2_E := ⟨_, _, rfl, Nat.le_of_ble_eq_true rfl, fun _ => rfl⟩
theorem EncodingShape.res2_H : EncodingShape.Statement .res2_H := ⟨_, _, rfl, Nat.le_of_ble_eq_true rfl, fun _ => rfl⟩
theorem EncodingShape.res2_L : EncodingShape.Statement .res2_L := ⟨_, _, rfl, Nat.le_of_ble_eq_true rfl, fun _ => rfl⟩
theorem EncodingShape.res2_atHL : EncodingShape.Statement .res2_atHL := ⟨_, _, rfl, Nat.le_of_ble_eq_true rfl, fun _ => rfl⟩
theorem EncodingShape.res2_A : EncodingShape.Statement .res2_A := ⟨_, _, rfl, Nat.le_of_ble_eq_true rfl, fun _ => rfl⟩
theorem EncodingShape.res3_B : EncodingShape.Statement .res3_B := ⟨_, _, rfl, Nat.le_of_ble_eq_true rfl, fun _ => rfl⟩
theorem EncodingShape.res3_C : EncodingShape.Statement .res3_C := ⟨_, _, rfl, Nat.le_of_ble_eq_true rfl, fun _ => rfl⟩
theorem EncodingShape.res3_D : EncodingShape.Statement .res3_D := ⟨_, _, rfl, Nat.le_of_ble_eq_true rfl, fun _ => rfl⟩
theorem EncodingShape.res3_E : EncodingShape.Statement .res3_E := ⟨_, _, rfl, Nat.le_of_ble_eq_true rfl, fun _ => rfl⟩
theorem EncodingShape.res3_H : EncodingShape.Statement .res3_H := ⟨_, _, rfl, Nat.le_of_ble_eq_true rfl, fun _ => rfl⟩
theorem EncodingShape.res3_L : EncodingShape.Statement .res3_L := ⟨_, _, rfl, Nat.le_of_ble_eq_true rfl, fun _ => rfl⟩
theorem EncodingShape.res3_atHL : EncodingShape.Statement .res3_atHL := ⟨_, _, rfl, Nat.le_of_ble_eq_true rfl, fun _ => rfl⟩
theorem EncodingShape.res3_A : EncodingShape.Statement .res3_A := ⟨_, _, rfl, Nat.le_of_ble_eq_true rfl, fun _ => rfl⟩
theorem EncodingShape.res4_B : EncodingShape.Statement .res4_B := ⟨_, _, rfl, Nat.le_of_ble_eq_true rfl, fun _ => rfl⟩
theorem EncodingShape.res4_C : EncodingShape.Statement .res4_C := ⟨_, _, rfl, Nat.le_of_ble_eq_true rfl, fun _ => rfl⟩
theorem EncodingShape.res4_D : EncodingShape.Statement .res4_D := ⟨_, _, rfl, Nat.le_of_ble_eq_true rfl, fun _ => rfl⟩
theorem EncodingShape.res4_E : EncodingShape.Statement .res4_E := ⟨_, _, rfl, Nat.le_of_ble_eq_true rfl, fun _ => rfl⟩
theorem EncodingShape.res4_H : EncodingShape.Statement .res4_H := ⟨_, _, rfl, Nat.le_of_ble_eq_true rfl, fun _ => rfl⟩
theorem EncodingShape.res4_L : EncodingShape.Statement .res4_L := ⟨_, _, rfl, Nat.le_of_ble_eq_true rfl, fun _ => rfl⟩
theorem EncodingShape.res4_atHL : EncodingShape.Statement .res4_atHL := ⟨_, _, rfl, Nat.le_of_ble_eq_true rfl, fun _ => rfl⟩
theorem EncodingShape.res4_A : EncodingShape.Statement .res4_A := ⟨_, _, rfl, Nat.le_of_ble_eq_true rfl, fun _ => rfl⟩
theorem EncodingShape.res5_B : EncodingShape.Statement .res5_B := ⟨_, _, rfl, Nat.le_of_ble_eq_true rfl, fun _ => rfl⟩
theorem EncodingShape.res5_C : EncodingShape.Statement .res5_C := ⟨_, _, rfl, Nat.le_of_ble_eq_true rfl, fun _ => rfl⟩
theorem EncodingShape.res5_D : EncodingShape.Statement .res5_D := ⟨_, _, rfl, Nat.le_of_ble_eq_true rfl, fun _ => rfl⟩
theorem EncodingShape.res5_E : EncodingShape.Statement .res5_E := ⟨_, _, rfl, Nat.le_of_ble_eq_true rfl, fun _ => rfl⟩
theorem EncodingShape.res5_H : EncodingShape.Statement .res5_H := ⟨_, _, rfl, Nat.le_of_ble_eq_true rfl, fun _ => rfl⟩
theorem EncodingShape.res5_L : EncodingShape.Statement .res5_L := ⟨_, _, rfl, Nat.le_of_ble_eq_true rfl, fun _ => rfl⟩
theorem EncodingShape.res5_atHL : EncodingShape.Statement .res5_atHL := ⟨_, _, rfl, Nat.le_of_ble_eq_true rfl, fun _ => rfl⟩
theorem EncodingShape.res5_A : EncodingShape.Statement .res5_A := ⟨_, _, rfl, Nat.le_of_ble_eq_true rfl, fun _ => rfl⟩
theorem EncodingShape.res6_B : EncodingShape.Statement .res6_B := ⟨_, _, rfl, Nat.le_of_ble_eq_true rfl, fun _ => rfl⟩
theorem EncodingShape.res6_C : EncodingShape.Statement .res6_C := ⟨_, _, rfl, Nat.le_of_ble_eq_true rfl, fun _ => rfl⟩
theorem EncodingShape.res6_D : EncodingShape.Statement .res6_D := ⟨_, _, rfl, Nat.le_of_ble_eq_true rfl, fun _ => rfl⟩
theorem EncodingShape.res6_E : EncodingShape.Statement .res6_E := ⟨_, _, rfl, Nat.le_of_ble_eq_true rfl, fun _ => rfl⟩
theorem EncodingShape.res6_H : EncodingShape.Statement .res6_H := ⟨_, _, rfl, Nat.le_of_ble_eq_true rfl, fun _ => rfl⟩
theorem EncodingShape.res6_L : EncodingShape.Statement .res6_L := ⟨_, _, rfl, Nat.le_of_ble_eq_true rfl, fun _ => rfl⟩
theorem EncodingShape.res6_atHL : EncodingShape.Statement .res6_atHL := ⟨_, _, rfl, Nat.le_of_ble_eq_true rfl, fun _ => rfl⟩
theorem EncodingShape.res6_A : EncodingShape.Statement .res6_A := ⟨_, _, rfl, Nat.le_of_ble_eq_true rfl, fun _ => rfl⟩
theorem EncodingShape.res7_B : EncodingShape.Statement .res7_B := ⟨_, _, rfl, Nat.le_of_ble_eq_true rfl, fun _ => rfl⟩
theorem EncodingShape.res7_C : EncodingShape.Statement .res7_C := ⟨_, _, rfl, Nat.le_of_ble_eq_true rfl, fun _ => rfl⟩
theorem EncodingShape.res7_D : EncodingShape.Statement .res7_D := ⟨_, _, rfl, Nat.le_of_ble_eq_true rfl, fun _ => rfl⟩
theorem EncodingShape.res7_E : EncodingShape.Statement .res7_E := ⟨_, _, rfl, Nat.le_of_ble_eq_true rfl, fun _ => rfl⟩
theorem EncodingShape.res7_H : EncodingShape.Statement .res7_H := ⟨_, _, rfl, Nat.le_of_ble_eq_true rfl, fun _ => rfl⟩
theorem EncodingShape.res7_L : EncodingShape.Statement .res7_L := ⟨_, _, rfl, Nat.le_of_ble_eq_true rfl, fun _ => rfl⟩
theorem EncodingShape.res7_atHL : EncodingShape.Statement .res7_atHL := ⟨_, _, rfl, Nat.le_of_ble_eq_true rfl, fun _ => rfl⟩
theorem EncodingShape.res7_A : EncodingShape.Statement .res7_A := ⟨_, _, rfl, Nat.le_of_ble_eq_true rfl, fun _ => rfl⟩
theorem EncodingShape.set0_B : EncodingShape.Statement .set0_B := ⟨_, _, rfl, Nat.le_of_ble_eq_true rfl, fun _ => rfl⟩
theorem EncodingShape.set0_C : EncodingShape.Statement .set0_C := ⟨_, _, rfl, Nat.le_of_ble_eq_true rfl, fun _ => rfl⟩
theorem EncodingShape.set0_D : EncodingShape.Statement .set0_D := ⟨_, _, rfl, Nat.le_of_ble_eq_true rfl, fun _ => rfl⟩
theorem EncodingShape.set0_E : EncodingShape.Statement .set0_E := ⟨_, _, rfl, Nat.le_of_ble_eq_true rfl, fun _ => rfl⟩
theorem EncodingShape.set0_H : EncodingShape.Statement .set0_H := ⟨_, _, rfl, Nat.le_of_ble_eq_true rfl, fun _ => rfl⟩
theorem EncodingShape.set0_L : EncodingShape.Statement .set0_L := ⟨_, _, rfl, Nat.le_of_ble_eq_true rfl, fun _ => rfl⟩
theorem EncodingShape.set0_atHL : EncodingShape.Statement .set0_atHL := ⟨_, _, rfl, Nat.le_of_ble_eq_true rfl, fun _ => rfl⟩
theorem EncodingShape.set0_A : EncodingShape.Statement .set0_A := ⟨_, _, rfl, Nat.le_of_ble_eq_true rfl, fun _ => rfl⟩
theorem EncodingShape.set1_B : EncodingShape.Statement .set1_B := ⟨_, _, rfl, Nat.le_of_ble_eq_true rfl, fun _ => rfl⟩
theorem EncodingShape.set1_C : EncodingShape.Statement .set1_C := ⟨_, _, rfl, Nat.le_of_ble_eq_true rfl, fun _ => rfl⟩
theorem EncodingShape.set1_D : EncodingShape.Statement .set1_D := ⟨_, _, rfl, Nat.le_of_ble_eq_true rfl, fun _ => rfl⟩
theorem EncodingShape.set1_E : EncodingShape.Statement .set1_E := ⟨_, _, rfl, Nat.le_of_ble_eq_true rfl, fun _ => rfl⟩
theorem EncodingShape.set1_H : EncodingShape.Statement .set1_H := ⟨_, _, rfl, Nat.le_of_ble_eq_true rfl, fun _ => rfl⟩
theorem EncodingShape.set1_L : EncodingShape.Statement .set1_L := ⟨_, _, rfl, Nat.le_of_ble_eq_true rfl, fun _ => rfl⟩
theorem EncodingShape.set1_atHL : EncodingShape.Statement .set1_atHL := ⟨_, _, rfl, Nat.le_of_ble_eq_true rfl, fun _ => rfl⟩
theorem EncodingShape.set1_A : EncodingShape.Statement .set1_A := ⟨_, _, rfl, Nat.le_of_ble_eq_true rfl, fun _ => rfl⟩
theorem EncodingShape.set2_B : EncodingShape.Statement .set2_B := ⟨_, _, rfl, Nat.le_of_ble_eq_true rfl, fun _ => rfl⟩
theorem EncodingShape.set2_C : EncodingShape.Statement .set2_C := ⟨_, _, rfl, Nat.le_of_ble_eq_true rfl, fun _ => rfl⟩
theorem EncodingShape.set2_D : EncodingShape.Statement .set2_D := ⟨_, _, rfl, Nat.le_of_ble_eq_true rfl, fun _ => rfl⟩
theorem EncodingShape.set2_E : EncodingShape.Statement .set2_E := ⟨_, _, rfl, Nat.le_of_ble_eq_true rfl, fun _ => rfl⟩
theorem EncodingShape.set2_H : EncodingShape.Statement .set2_H := ⟨_, _, rfl, Nat.le_of_ble_eq_true rfl, fun _ => rfl⟩
theorem EncodingShape.set2_L : EncodingShape.Statement .set2_L := ⟨_, _, rfl, Nat.le_of_ble_eq_true rfl, fun _ => rfl⟩
theorem EncodingShape.set2_atHL : EncodingShape.Statement .set2_atHL := ⟨_, _, rfl, Nat.le_of_ble_eq_true rfl, fun _ => rfl⟩
theorem EncodingShape.set2_A : EncodingShape.Statement .set2_A := ⟨_, _, rfl, Nat.le_of_ble_eq_true rfl, fun _ => rfl⟩
theorem EncodingShape.set3_B : EncodingShape.Statement .set3_B := ⟨_, _, rfl, Nat.le_of_ble_eq_true rfl, fun _ => rfl⟩
theorem EncodingShape.set3_C : EncodingShape.Statement .set3_C := ⟨_, _, rfl, Nat.le_of_ble_eq_true rfl, fun _ => rfl⟩
theorem EncodingShape.set3_D : EncodingShape.Statement .set3_D := ⟨_, _, rfl, Nat.le_of_ble_eq_true rfl, fun _ => rfl⟩
theorem EncodingShape.set3_E : EncodingShape.Statement .set3_E := ⟨_, _, rfl, Nat.le_of_ble_eq_true rfl, fun _ => rfl⟩
theorem EncodingShape.set3_H : EncodingShape.Statement .set3_H := ⟨_, _, rfl, Nat.le_of_ble_eq_true rfl, fun _ => rfl⟩
theorem EncodingShape.set3_L : EncodingShape.Statement .set3_L := ⟨_, _, rfl, Nat.le_of_ble_eq_true rfl, fun _ => rfl⟩
theorem EncodingShape.set3_atHL : EncodingShape.Statement .set3_atHL := ⟨_, _, rfl, Nat.le_of_ble_eq_true rfl, fun _ => rfl⟩
theorem EncodingShape.set3_A : EncodingShape.Statement .set3_A := ⟨_, _, rfl, Nat.le_of_ble_eq_true rfl, fun _ => rfl⟩
theorem EncodingShape.set4_B : EncodingShape.Statement .set4_B := ⟨_, _, rfl, Nat.le_of_ble_eq_true rfl, fun _ => rfl⟩
theorem EncodingShape.set4_C : EncodingShape.Statement .set4_C := ⟨_, _, rfl, Nat.le_of_ble_eq_true rfl, fun _ => rfl⟩
theorem EncodingShape.set4_D : EncodingShape.Statement .set4_D := ⟨_, _, rfl, Nat.le_of_ble_eq_true rfl, fun _ => rfl⟩
theorem EncodingShape.set4_E : EncodingShape.Statement .set4_E := ⟨_, _, rfl, Nat.le_of_ble_eq_true rfl, fun _ => rfl⟩
theorem EncodingShape.set4_H : EncodingShape.Statement .set4_H := ⟨_, _, rfl, Nat.le_of_ble_eq_true rfl, fun _ => rfl⟩
theorem EncodingShape.set4_L : EncodingShape.Statement .set4_L := ⟨_, _, rfl, Nat.le_of_ble_eq_true rfl, fun _ => rfl⟩
theorem EncodingShape.set4_atHL : EncodingShape.Statement .set4_atHL := ⟨_, _, rfl, Nat.le_of_ble_eq_true rfl, fun _ => rfl⟩
theorem EncodingShape.set4_A : EncodingShape.Statement .set4_A := ⟨_, _, rfl, Nat.le_of_ble_eq_true rfl, fun _ => rfl⟩
theorem EncodingShape.set5_B : EncodingShape.Statement .set5_B := ⟨_, _, rfl, Nat.le_of_ble_eq_true rfl, fun _ => rfl⟩
theorem EncodingShape.set5_C : EncodingShape.Statement .set5_C := ⟨_, _, rfl, Nat.le_of_ble_eq_true rfl, fun _ => rfl⟩
theorem EncodingShape.set5_D : EncodingShape.Statement .set5_D := ⟨_, _, rfl, Nat.le_of_ble_eq_true rfl, fun _ => rfl⟩
theorem EncodingShape.set5_E : EncodingShape.Statement .set5_E := ⟨_, _, rfl, Nat.le_of_ble_eq_true rfl, fun _ => rfl⟩
theorem EncodingShape.set5_H : EncodingShape.Statement .set5_H := ⟨_, _, rfl, Nat.le_of_ble_eq_true rfl, fun _ => rfl⟩
theorem EncodingShape.set5_L : EncodingShape.Statement .set5_L := ⟨_, _, rfl, Nat.le_of_ble_eq_true rfl, fun _ => rfl⟩
theorem EncodingShape.set5_atHL : EncodingShape.Statement .set5_atHL := ⟨_, _, rfl, Nat.le_of_ble_eq_true rfl, fun _ => rfl⟩
theorem EncodingShape.set5_A : EncodingShape.Statement .set5_A := ⟨_, _, rfl, Nat.le_of_ble_eq_true rfl, fun _ => rfl⟩
theorem EncodingShape.set6_B : EncodingShape.Statement .set6_B := ⟨_, _, rfl, Nat.le_of_ble_eq_true rfl, fun _ => rfl⟩
theorem EncodingShape.set6_C : EncodingShape.Statement .set6_C := ⟨_, _, rfl, Nat.le_of_ble_eq_true rfl, fun _ => rfl⟩
theorem EncodingShape.set6_D : EncodingShape.Statement .set6_D := ⟨_, _, rfl, Nat.le_of_ble_eq_true rfl, fun _ => rfl⟩
theorem EncodingShape.set6_E : EncodingShape.Statement .set6_E := ⟨_, _, rfl, Nat.le_of_ble_eq_true rfl, fun _ => rfl⟩
theorem EncodingShape.set6_H : EncodingShape.Statement .set6_H := ⟨_, _, rfl, Nat.le_of_ble_eq_true rfl, fun _ => rfl⟩
theorem EncodingShape.set6_L : EncodingShape.Statement .set6_L := ⟨_, _, rfl, Nat.le_of_ble_eq_true rfl, fun _ => rfl⟩
theorem EncodingShape.set6_atHL : EncodingShape.Statement .set6_atHL := ⟨_, _, rfl, Nat.le_of_ble_eq_true rfl, fun _ => rfl⟩
theorem EncodingShape.set6_A : EncodingShape.Statement .set6_A := ⟨_, _, rfl, Nat.le_of_ble_eq_true rfl, fun _ => rfl⟩
theorem EncodingShape.set7_B : EncodingShape.Statement .set7_B := ⟨_, _, rfl, Nat.le_of_ble_eq_true rfl, fun _ => rfl⟩
theorem EncodingShape.set7_C : EncodingShape.Statement .set7_C := ⟨_, _, rfl, Nat.le_of_ble_eq_true rfl, fun _ => rfl⟩
theorem EncodingShape.set7_D : EncodingShape.Statement .set7_D := ⟨_, _, rfl, Nat.le_of_ble_eq_true rfl, fun _ => rfl⟩
theorem EncodingShape.set7_E : EncodingShape.Statement .set7_E := ⟨_, _, rfl, Nat.le_of_ble_eq_true rfl, fun _ => rfl⟩
theorem EncodingShape.set7_H : EncodingShape.Statement .set7_H := ⟨_, _, rfl, Nat.le_of_ble_eq_true rfl, fun _ => rfl⟩
theorem EncodingShape.set7_L : EncodingShape.Statement .set7_L := ⟨_, _, rfl, Nat.le_of_ble_eq_true rfl, fun _ => rfl⟩
theorem EncodingShape.set7_atHL : EncodingShape.Statement .set7_atHL := ⟨_, _, rfl, Nat.le_of_ble_eq_true rfl, fun _ => rfl⟩
theorem EncodingShape.set7_A : EncodingShape.Statement .set7_A := ⟨_, _, rfl, Nat.le_of_ble_eq_true rfl, fun _ => rfl⟩

end Sys2Proof.Laws
end

