-- ==== Sys2Proof/Laws/Step.lean ====
section
/-! SUPPORT. What one step can do to the state, once (60_exceptions.md R430). -/

namespace Sys2Proof.Machine

variable {P : State → Prop} {s t : State}

theorem advanceDevices_change (c : Nat) : DeviceChange s (advanceDevices c s) :=
  (timerAdvance_change c).trans (videoAdvance_change c).device

/-- Beside what an instruction does, a step keeps an opcode's address, disarms the halt bug, runs a Halted CPU, clears a bit of IF and
advances the devices. -/
structure StepClosed (P : State → Prop) : Prop extends Closed P where
  masks : MasksKeep P
  fetched : ∀ s a, P s → P { s with opcodeAddr := a }
  disarmed : ∀ s, P s → P { s with haltBugArmed := false }
  running : ∀ s, s.runState = .halted → P s → P { s with runState := .running }
  irqFlags : ∀ s x, P s → P { s with bus := { s.bus with ifReg := x } }
  devices : ∀ s c, P s → P (advanceDevices c s)

theorem fetchOpcode_closed (hc : StepClosed P) (h : P s) : Good P (fetchOpcode s) := by
  refine Good.bind (memRead_closed hc.toClosed _ h) fun v t ht => Good.ok ?_
  have hf := hc.fetched t t.regs.pc ht
  unfold State.opcodeFetched
  simp only
  split
  · exact hc.disarmed _ hf
  · exact setPc_closed hc.toClosed _ hf

theorem fetchInstr_closed (hc : StepClosed P) (h : P s) : Good P (fetchInstr s) := by
  refine Good.bind (fetchOpcode_closed hc h) fun op t ht => ?_
  split
  · exact Good.ok ht
  · refine Good.bind (fetch8_closed hc.toClosed ht) fun b1 u hu => ?_
    split
    · exact Good.ok hu
    · exact Good.bind (fetch8_closed hc.toClosed hu) fun b2 w hw => Good.ok hw

theorem wake_closed (hc : StepClosed P) (h : P s) : P s.wake := by
  unfold State.wake
  split
  · next hr => exact hc.running s hr h
  · exact h
  · exact h

theorem dispatch_closed (hc : StepClosed P) (k : Irq) (h : P s) : Good P (dispatch k s) := by
  refine Good.bind (push16_closed hc.toClosed _ (hc.masks s false s.imePending h)) fun _ t ht => ?_
  exact Good.ok (hc.regs _ { t.regs with pc := irqVector k }
    (hc.irqFlags t (t.bus.ifReg &&& ~~~((1 : BitVec 5) <<< irqBit k)) ht) (Or.inl rfl))

theorem interruptPhase_closed (hc : StepClosed P) (h : P s) : P (interruptPhase s) := by
  unfold interruptPhase
  split
  · exact h
  · next k _ =>
    simp only
    have hw := wake_closed hc h
    split
    · have hd := dispatch_closed hc k hw
      split
      · next u hu =>
        rw [hu] at hd
        exact hc.devices _ 20 (hc.cost u (u.cycles + 20) hd.state)
      · next e u hu =>
        rw [hu] at hd
        exact hc.raised u e hd.state (hd.fits e u rfl)
    · exact hw

theorem afterExecute_closed (hc : StepClosed P) (p : Bool) (h : P s) : P (afterExecute p s) := by
  have he : P (eiDelay p s) := by
    unfold eiDelay
    split
    · exact hc.masks s true false h
    · exact h
  unfold afterExecute
  split
  · exact h
  · exact interruptPhase_closed hc (hc.devices _ _ he)
  · exact interruptPhase_closed hc (hc.devices _ _ he)

/-- A property that every phase of a step keeps is kept by the step. -/
theorem step_closed (hc : StepClosed P) (h : P s) (hs : step s = .next t) : P t := by
  unfold step at hs
  split at hs
  · simp at hs
  · simp only [finishStep, Host.Outcome.next.injEq] at hs
    subst hs
    exact afterExecute_closed hc _ (hc.cost s 4 h)
  · have hf := fetchInstr_closed hc h
    split at hs
    · next i u hu =>
      rw [hu] at hf
      obtain ⟨w, hw, hp⟩ := exec_closed hc.toClosed i (fun _ => hc.masks) (show P u from hf.state)
      rw [hw] at hs
      simp only [finishStep, Host.Outcome.next.injEq] at hs
      subst hs
      exact afterExecute_closed hc _ hp
    · next e u hu =>
      rw [hu] at hf
      simp only [Host.Outcome.next.injEq] at hs
      subst hs
      exact hc.raised u e hf.state (hf.fits e u rfl)

end Sys2Proof.Machine
end

