-- ==== Sys2Proof/Laws/Video.lean ====
section
/-! SUPPORT. What rendering a line changes, and that the video engine's counters stay in their ranges (61_video.md R500, R510 to
R531). -/

namespace Sys2Proof.Machine

variable {s : State} {v : Video}

/-! ### The sprite scan and the rendering of a line -/

theorem insertSprite_length (x : Sprite) (xs : List Sprite) : (insertSprite x xs).length = xs.length + 1 := by
  induction xs with
  | nil => rfl
  | cons y ys ih =>
    unfold insertSprite
    split
    · rfl
    · rw [List.length_cons, ih, List.length_cons]

theorem sortSprites_length (xs : List Sprite) : (sortSprites xs).length = xs.length := by
  have h : ∀ acc : List Sprite, (xs.foldl (fun sorted x => insertSprite x sorted) acc).length = acc.length + xs.length := by
    induction xs with
    | nil => simp
    | cons x xs ih =>
      intro acc
      rw [List.foldl_cons, ih, insertSprite_length, List.length_cons]
      omega
  unfold sortSprites
  simpa using h []

/-- The scan selects at most 10 sprites (R514). -/
theorem oamScan_length (v : Video) : (oamScan v).length ≤ 10 := by
  unfold oamScan
  rw [sortSprites_length, List.length_take]
  exact Nat.min_le_left _ _

theorem renderPixels_wf (h : Frame.wf v.lines) (n : Nat) : Frame.wf (renderPixels v n) := by
  induction n with
  | zero => exact h
  | succ n ih => exact Frame.write_wf ih

/-- The rendered pixels: row LY below column `n` as `pixel` says, every other pixel as it was (R531). -/
theorem renderPixels_read (h : Frame.wf v.lines) (n : Nat) (hn : n ≤ 160) (y x : Nat) (hx : x < 160) :
    Frame.read (renderPixels v n) y x = if y = v.ly ∧ x < n then pixel v x else Frame.read v.lines y x := by
  induction n with
  | zero => simp [renderPixels]
  | succ n ih =>
    unfold renderPixels
    rw [Frame.read_write (renderPixels_wf h n) (by omega) hx, ih (by omega)]
    by_cases hy : y = v.ly
    · by_cases hxn : x = n
      · simp [hy, hxn]
      · have : x < n + 1 ↔ x < n := by omega
        simp [hy, hxn, this]
    · simp [hy]

section
variable (v)
@[simp] theorem windowYCheck_lines : (windowYCheck v).lines = v.lines := by unfold windowYCheck; split <;> rfl
@[simp] theorem windowYCheck_ly : (windowYCheck v).ly = v.ly := by unfold windowYCheck; split <;> rfl
@[simp] theorem windowYCheck_lineCycle : (windowYCheck v).lineCycle = v.lineCycle := by unfold windowYCheck; split <;> rfl
@[simp] theorem windowYCheck_winLine : (windowYCheck v).winLine = v.winLine := by unfold windowYCheck; split <;> rfl
@[simp] theorem windowYCheck_lcdActive : (windowYCheck v).lcdActive = v.lcdActive := by unfold windowYCheck; split <;> rfl
@[simp] theorem windowYCheck_spriteBuf : (windowYCheck v).spriteBuf = v.spriteBuf := by unfold windowYCheck; split <;> rfl
@[simp] theorem windowYCheck_viewport : (windowYCheck v).viewport = v.viewport := by unfold windowYCheck; split <;> rfl
@[simp] theorem windowYCheck_vram : (windowYCheck v).vram = v.vram := by unfold windowYCheck; split <;> rfl
@[simp] theorem windowYCheck_oam : (windowYCheck v).oam = v.oam := by unfold windowYCheck; split <;> rfl
@[simp] theorem windowYCheck_scx : (windowYCheck v).scx = v.scx := by unfold windowYCheck; split <;> rfl
end

/-! ### The counters stay in range -/

/-- Draw begins at line cycle 80 of a visible line with its end in range (R513, R516). -/
theorem enterDraw_wf {w : Nat} (hw : w ≤ 196) (ha : v.lcdActive = true) (hl : v.ly < 144) (hc : v.lineCycle = 80)
    (h6 : v.winLine ≤ v.ly) : VideoWf (enterDraw w v) := by
  have hd : (enterDraw w v).drawEnd = 252 + v.scx.toNat % 8 + (if (enterDraw w v).winDrawn then w else 0) := by
    simp [enterDraw, renderLine]
  have hd1 : 252 ≤ (enterDraw w v).drawEnd := by rw [hd]; omega
  have hd2 : (enterDraw w v).drawEnd ≤ 455 := by
    have hs := v.scx.isLt
    rw [hd]
    split <;> omega
  have hly : (enterDraw w v).ly = v.ly := by simp [enterDraw, renderLine]
  have hlc : (enterDraw w v).lineCycle = v.lineCycle := by simp [enterDraw, renderLine]
  have hwl : (enterDraw w v).winLine = v.winLine := by simp [enterDraw, renderLine]
  have hla : (enterDraw w v).lcdActive = v.lcdActive := by simp [enterDraw, renderLine]
  have hm : (enterDraw w v).mode = .draw := rfl
  have hsb : (enterDraw w v).spriteBuf.length ≤ 10 := by
    have : (enterDraw w v).spriteBuf = oamScan v := by simp [enterDraw, renderLine]
    rw [this]
    exact oamScan_length v
  refine ⟨by omega, by omega, hd1, hd2, hsb, by omega, fun hh => by omega, ?_⟩
  rw [if_pos (by rw [hla, ha])]
  unfold ModeFollows
  rw [if_neg (by omega), if_neg (by omega), if_pos (by omega)]
  exact hm

theorem lineEnd_wf (h1 : s.video.ly ≤ 153) (h6 : s.video.winLine ≤ s.video.ly)
    (h7 : 144 ≤ s.video.ly → s.video.winLine = 0 ∧ s.video.winDrawn = false) (ha : s.video.lcdActive = true)
    (hm : 144 ≤ s.video.ly → s.video.mode = .vblank) : VideoWf (lineEnd s).video := by
  have hn : nextLine s.video.ly ≤ 153 := by
    unfold nextLine
    split <;> omega
  have hwn : (if s.video.winDrawn then s.video.winLine + 1 else s.video.winLine) ≤ nextLine s.video.ly ∧
      (145 ≤ nextLine s.video.ly → (if s.video.winDrawn then s.video.winLine + 1 else s.video.winLine) = 0) := by
    unfold nextLine
    by_cases h144 : 144 ≤ s.video.ly
    · obtain ⟨hw, hd⟩ := h7 h144
      simp [hw, hd]
    · split <;> split <;> omega
  have hmode : 145 ≤ nextLine s.video.ly → s.video.mode = .vblank := by
    intro hh
    apply hm
    unfold nextLine at hh
    split at hh <;> omega
  unfold lineEnd beginLine
  simp only [State.withVideo_video, lycCheck_video, clearLine]
  generalize nextLine s.video.ly = ly at hn hwn hmode ⊢
  by_cases h144 : ly = 144
  · rw [if_pos h144]
    simp only [enterVblank_video, State.withVideo_video]
    subst h144
    refine ⟨by simp, by simp, by simp, by simp, by simp, Nat.zero_le _, fun _ => ⟨rfl, rfl⟩, ?_⟩
    simp [ha, ModeFollows]
  · rw [if_neg h144]
    by_cases hlt : ly < 144
    · rw [if_pos hlt]
      simp only [enterMode_video, State.withVideo_video]
      refine ⟨by omega, by simp, by simp, by simp, by simp, hwn.1, fun hh => absurd hh (by show ¬ 144 ≤ ly; omega), ?_⟩
      simp only [ha, if_true, ModeFollows]
      rw [if_neg (by omega), if_pos (by simp)]
      trivial
    · rw [if_neg hlt]
      simp only [State.withVideo_video]
      refine ⟨hn, by simp, by simp, by simp, by simp, hwn.1, fun hh => ⟨hwn.2 (by omega), rfl⟩, ?_⟩
      simp only [ha, if_true, ModeFollows]
      rw [if_pos (by omega)]
      exact hmode (by omega)

theorem lineEnd_lcdActive : (lineEnd s).video.lcdActive = s.video.lcdActive := by
  simp only [lineEnd, beginLine]
  split
  · simp [enterVblank_video, lycCheck_video, clearLine]
  · split
    · simp [enterMode_video, lycCheck_video, clearLine]
    · simp [lycCheck_video, clearLine]

/-- The event of a line cycle, from the mode of the cycle before (R510, R513). -/
theorem cycleEvent_wf (hw : s.params.windowPenalty ≤ 196) (ha : s.video.lcdActive = true) (h1 : s.video.ly ≤ 153)
    (h2 : s.video.lineCycle ≤ 456) (h3 : 252 ≤ s.video.drawEnd) (h4 : s.video.drawEnd ≤ 455)
    (h5 : s.video.spriteBuf.length ≤ 10) (h6 : s.video.winLine ≤ s.video.ly)
    (h7 : 144 ≤ s.video.ly → s.video.winLine = 0 ∧ s.video.winDrawn = false)
    (hv : 144 ≤ s.video.ly → s.video.mode = .vblank)
    (ho : s.video.ly < 144 → s.video.lineCycle ≤ 80 → s.video.mode = .oamScan)
    (hd : s.video.ly < 144 → 80 < s.video.lineCycle → s.video.lineCycle ≤ s.video.drawEnd → s.video.mode = .draw)
    (hh : s.video.ly < 144 → s.video.drawEnd < s.video.lineCycle → s.video.mode = .hblank) :
    VideoWf (cycleEvent s).video ∧ (cycleEvent s).video.lcdActive = true := by
  unfold cycleEvent
  split
  · exact ⟨lineEnd_wf h1 h6 h7 ha hv, by rw [lineEnd_lcdActive]; exact ha⟩
  · next c456 =>
    split
    · next c80 =>
      simp only [State.withVideo_video]
      exact ⟨enterDraw_wf hw ha c80.1 c80.2.2 h6, by simp [enterDraw, renderLine, ha]⟩
    · next c80 =>
      split
      · next cEnd =>
        simp only [enterMode_video]
        refine ⟨⟨h1, by show s.video.lineCycle ≤ 455; omega, h3, h4, h5, h6, h7, ?_⟩, ha⟩
        rw [if_pos ha]
        unfold ModeFollows
        rw [if_neg (by show ¬ 144 ≤ s.video.ly; omega), if_neg (by show ¬ s.video.lineCycle < 80; omega),
          if_neg (by show ¬ s.video.lineCycle < s.video.drawEnd; omega)]
      · next cEnd =>
        refine ⟨⟨h1, by omega, h3, h4, h5, h6, h7, ?_⟩, ha⟩
        rw [if_pos ha]
        unfold ModeFollows
        by_cases c1 : 144 ≤ s.video.ly
        · rw [if_pos c1]
          exact hv c1
        · have hl : s.video.ly < 144 := by omega
          rw [if_neg c1]
          by_cases c2 : s.video.lineCycle < 80
          · rw [if_pos c2]
            exact ho hl (by omega)
          · rw [if_neg c2]
            have c2' : 80 < s.video.lineCycle := by
              by_contra hcon
              exact c80 ⟨hl, ho hl (by omega), by omega⟩
            by_cases c3 : s.video.lineCycle < s.video.drawEnd
            · rw [if_pos c3]
              exact hd hl c2' (by omega)
            · rw [if_neg c3]
              have c3' : s.video.drawEnd < s.video.lineCycle := by
                by_contra hcon
                exact cEnd ⟨hl, hd hl c2' (by omega), by omega⟩
              exact hh hl c3'

/-- One tick keeps the counters in range while the LCD is on (R510, R513). -/
theorem videoTick_wf (hw : s.params.windowPenalty ≤ 196) (h : VideoWf s.video) (ha : s.video.lcdActive = true) :
    VideoWf (videoTick s).video ∧ (videoTick s).video.lcdActive = true := by
  obtain ⟨h1, h2, h3, h4, h5, h6, h7, h8⟩ := h
  rw [if_pos ha] at h8
  unfold ModeFollows at h8
  refine cycleEvent_wf hw ha h1 (by show s.video.lineCycle + 1 ≤ 456; omega) h3 h4 h5 h6 h7 ?_ ?_ ?_ ?_
  · intro c
    have c1 : 144 ≤ s.video.ly := c
    rw [if_pos c1] at h8
    exact h8
  · intro c c'
    have c1 : s.video.ly < 144 := c
    have c2 : s.video.lineCycle + 1 ≤ 80 := c'
    rw [if_neg (by omega), if_pos (by omega)] at h8
    exact h8
  · intro c c' c''
    have c1 : s.video.ly < 144 := c
    have c2 : 80 < s.video.lineCycle + 1 := c'
    have c3 : s.video.lineCycle + 1 ≤ s.video.drawEnd := c''
    rw [if_neg (by omega), if_neg (by omega), if_pos (by omega)] at h8
    exact h8
  · intro c c'
    have c1 : s.video.ly < 144 := c
    have c2 : s.video.drawEnd < s.video.lineCycle + 1 := c'
    rw [if_neg (by omega), if_neg (by omega), if_neg (by omega)] at h8
    exact h8

theorem videoTicks_wf (c : Nat) (hw : s.params.windowPenalty ≤ 196) (h : VideoWf s.video) (ha : s.video.lcdActive = true) :
    VideoWf (videoTicks c s).video ∧ (videoTicks c s).video.lcdActive = true := by
  induction c generalizing s with
  | zero => exact ⟨h, ha⟩
  | succ c ih =>
    obtain ⟨h', ha'⟩ := videoTick_wf hw h ha
    exact ih (by rw [videoTick_change.device.params]; exact hw) h' ha'

/-- The video engine keeps its counters in range and its mode as the line cycle says (R510 to R513, R517 to R519). -/
theorem videoAdvance_wf (c : Nat) (hw : s.params.windowPenalty ≤ 196) (h : VideoWf s.video) : VideoWf (videoAdvance c s).video := by
  have h' := h
  obtain ⟨h1, h2, h3, h4, h5, h6, h7, h8⟩ := h
  unfold videoAdvance
  split
  · simp only [lcdOff, State.withVideo_video]
    exact ⟨by simp, by simp, h3, h4, by simp, by simp, by simp, by simp [VideoPinned]⟩
  · split
    · next ha => exact (videoTicks_wf c hw h' ha).1
    · next ha =>
      have ha' : s.video.lcdActive = false := by simpa using ha
      simp only [ha', Bool.false_eq_true, if_false, VideoPinned] at h8
      obtain ⟨p1, p2, p3, p4, p5, p6, p7⟩ := h8
      have hon : (lcdOn s).params = s.params :=
        (((withVideo_videoChange _).trans lycCheck_change).trans (enterMode_change _)).device.params
      refine (videoTicks_wf c (by rw [hon]; exact hw) ?_ ?_).1
      · simp only [lcdOn, enterMode_video, lycCheck_video, State.withVideo_video]
        refine ⟨by simp, by simp, h3, h4, h5, by simp [p4], by simp, ?_⟩
        simp [ModeFollows]
      · simp only [lcdOn, enterMode_video, lycCheck_video, State.withVideo_video]

/-! ### The pictures stay canonical -/

/-- `t` keeps the pictures canonical and the memories of `s`. -/
def FramesKept (s t : State) : Prop :=
  Frame.wf s.video.lines → Frame.wf s.video.viewport →
    Frame.wf t.video.lines ∧ Frame.wf t.video.viewport ∧ t.video.vram = s.video.vram ∧ t.video.oam = s.video.oam

theorem cycleEvent_frames : FramesKept s (cycleEvent s) := by
  intro h h'
  unfold cycleEvent
  split
  · simp only [lineEnd, beginLine]
    split
    · simp only [enterVblank_video, lycCheck_video, clearLine, State.withVideo_video]
      exact ⟨h, h, trivial, trivial⟩
    · split
      · simp only [enterMode_video, lycCheck_video, clearLine, State.withVideo_video]
        exact ⟨h, h', trivial, trivial⟩
      · simp only [lycCheck_video, clearLine, State.withVideo_video]
        exact ⟨h, h', trivial, trivial⟩
  · split
    · simp only [State.withVideo_video, enterDraw, renderLine]
      refine ⟨renderPixels_wf ?_ 160, ?_, ?_, ?_⟩
      · rw [windowYCheck_lines]
        exact h
      · rw [windowYCheck_viewport]
        exact h'
      · rw [windowYCheck_vram]
      · rw [windowYCheck_oam]
    · split
      · simp only [enterMode_video]
        exact ⟨h, h', trivial, trivial⟩
      · exact ⟨h, h', rfl, rfl⟩

theorem videoTick_frames : FramesKept s (videoTick s) := fun h h' => cycleEvent_frames (s := s.withVideo _) h h'

theorem videoTicks_frames (c : Nat) : FramesKept s (videoTicks c s) := by
  induction c generalizing s with
  | zero => exact fun h h' => ⟨h, h', rfl, rfl⟩
  | succ c ih =>
    intro h h'
    obtain ⟨a1, a2, a3, a4⟩ := videoTick_frames h h'
    obtain ⟨b1, b2, b3, b4⟩ := ih a1 a2
    exact ⟨b1, b2, b3.trans a3, b4.trans a4⟩

/-- The video engine keeps its pictures canonical and writes neither VRAM nor OAM. -/
theorem videoAdvance_frames (c : Nat) : FramesKept s (videoAdvance c s) := by
  unfold videoAdvance
  split
  · exact fun h h' => ⟨h, h', rfl, rfl⟩
  · split
    · exact videoTicks_frames c
    · have ho : (lcdOn s).video.lines = s.video.lines ∧ (lcdOn s).video.viewport = s.video.viewport ∧
          (lcdOn s).video.vram = s.video.vram ∧ (lcdOn s).video.oam = s.video.oam := by
        simp [lcdOn, enterMode_video, lycCheck_video]
      obtain ⟨o1, o2, o3, o4⟩ := ho
      intro h h'
      obtain ⟨b1, b2, b3, b4⟩ := videoTicks_frames (s := lcdOn s) c (o1 ▸ h) (o2 ▸ h')
      exact ⟨b1, b2, b3.trans o3, b4.trans o4⟩

end Sys2Proof.Machine
end

