-- ==== Sys2Proof/Machine/Assembly.lean ====
section
/-! DEFINITION. The assembler syntax (30_encoding.md R196, R197): the canonical spelling of each instruction, with the operand
names of the opcode maps, and the displacement the assembler computes for JR. No step reads them. -/

namespace Sys2Proof.Machine

/-- The canonical spelling, as the opcode maps print it (R191, R192, R196); an illegal opcode has none and is named by its byte. -/
def mnemonic (i : Instr) : String :=
  match i with
  | .nop => "NOP"
  | .ldBC_nn _ => "LD BC,nn"
  | .ldAtBC_A => "LD (BC),A"
  | .incBC => "INC BC"
  | .incB => "INC B"
  | .decB => "DEC B"
  | .ldB_n _ => "LD B,n"
  | .rlca => "RLCA"
  | .ldAtNN_SP _ => "LD (nn),SP"
  | .addHL_BC => "ADD HL,BC"
  | .ldA_atBC => "LD A,(BC)"
  | .decBC => "DEC BC"
  | .incC => "INC C"
  | .decC => "DEC C"
  | .ldC_n _ => "LD C,n"
  | .rrca => "RRCA"
  | .stop _ => "STOP"
  | .ldDE_nn _ => "LD DE,nn"
  | .ldAtDE_A => "LD (DE),A"
  | .incDE => "INC DE"
  | .incD => "INC D"
  | .decD => "DEC D"
  | .ldD_n _ => "LD D,n"
  | .rla => "RLA"
  | .jr_e _ => "JR e"
  | .addHL_DE => "ADD HL,DE"
  | .ldA_atDE => "LD A,(DE)"
  | .decDE => "DEC DE"
  | .incE => "INC E"
  | .decE => "DEC E"
  | .ldE_n _ => "LD E,n"
  | .rra => "RRA"
  | .jrNZ_e _ => "JR NZ,e"
  | .ldHL_nn _ => "LD HL,nn"
  | .ldAtHLI_A => "LD (HL+),A"
  | .incHL => "INC HL"
  | .incH => "INC H"
  | .decH => "DEC H"
  | .ldH_n _ => "LD H,n"
  | .daa => "DAA"
  | .jrZ_e _ => "JR Z,e"
  | .addHL_HL => "ADD HL,HL"
  | .ldA_atHLI => "LD A,(HL+)"
  | .decHL => "DEC HL"
  | .incL => "INC L"
  | .decL => "DEC L"
  | .ldL_n _ => "LD L,n"
  | .cpl => "CPL"
  | .jrNC_e _ => "JR NC,e"
  | .ldSP_nn _ => "LD SP,nn"
  | .ldAtHLD_A => "LD (HL-),A"
  | .incSP => "INC SP"
  | .incAtHL => "INC (HL)"
  | .decAtHL => "DEC (HL)"
  | .ldAtHL_n _ => "LD (HL),n"
  | .scf => "SCF"
  | .jrC_e _ => "JR C,e"
  | .addHL_SP => "ADD HL,SP"
  | .ldA_atHLD => "LD A,(HL-)"
  | .decSP => "DEC SP"
  | .incA => "INC A"
  | .decA => "DEC A"
  | .ldA_n _ => "LD A,n"
  | .ccf => "CCF"
  | .ldB_B => "LD B,B"
  | .ldB_C => "LD B,C"
  | .ldB_D => "LD B,D"
  | .ldB_E => "LD B,E"
  | .ldB_H => "LD B,H"
  | .ldB_L => "LD B,L"
  | .ldB_atHL => "LD B,(HL)"
  | .ldB_A => "LD B,A"
  | .ldC_B => "LD C,B"
  | .ldC_C => "LD C,C"
  | .ldC_D => "LD C,D"
  | .ldC_E => "LD C,E"
  | .ldC_H => "LD C,H"
  | .ldC_L => "LD C,L"
  | .ldC_atHL => "LD C,(HL)"
  | .ldC_A => "LD C,A"
  | .ldD_B => "LD D,B"
  | .ldD_C => "LD D,C"
  | .ldD_D => "LD D,D"
  | .ldD_E => "LD D,E"
  | .ldD_H => "LD D,H"
  | .ldD_L => "LD D,L"
  | .ldD_atHL => "LD D,(HL)"
  | .ldD_A => "LD D,A"
  | .ldE_B => "LD E,B"
  | .ldE_C => "LD E,C"
  | .ldE_D => "LD E,D"
  | .ldE_E => "LD E,E"
  | .ldE_H => "LD E,H"
  | .ldE_L => "LD E,L"
  | .ldE_atHL => "LD E,(HL)"
  | .ldE_A => "LD E,A"
  | .ldH_B => "LD H,B"
  | .ldH_C => "LD H,C"
  | .ldH_D => "LD H,D"
  | .ldH_E => "LD H,E"
  | .ldH_H => "LD H,H"
  | .ldH_L => "LD H,L"
  | .ldH_atHL => "LD H,(HL)"
  | .ldH_A => "LD H,A"
  | .ldL_B => "LD L,B"
  | .ldL_C => "LD L,C"
  | .ldL_D => "LD L,D"
  | .ldL_E => "LD L,E"
  | .ldL_H => "LD L,H"
  | .ldL_L => "LD L,L"
  | .ldL_atHL => "LD L,(HL)"
  | .ldL_A => "LD L,A"
  | .ldAtHL_B => "LD (HL),B"
  | .ldAtHL_C => "LD (HL),C"
  | .ldAtHL_D => "LD (HL),D"
  | .ldAtHL_E => "LD (HL),E"
  | .ldAtHL_H => "LD (HL),H"
  | .ldAtHL_L => "LD (HL),L"
  | .halt => "HALT"
  | .ldAtHL_A => "LD (HL),A"
  | .ldA_B => "LD A,B"
  | .ldA_C => "LD A,C"
  | .ldA_D => "LD A,D"
  | .ldA_E => "LD A,E"
  | .ldA_H => "LD A,H"
  | .ldA_L => "LD A,L"
  | .ldA_atHL => "LD A,(HL)"
  | .ldA_A => "LD A,A"
  | .addA_B => "ADD A,B"
  | .addA_C => "ADD A,C"
  | .addA_D => "ADD A,D"
  | .addA_E => "ADD A,E"
  | .addA_H => "ADD A,H"
  | .addA_L => "ADD A,L"
  | .addA_atHL => "ADD A,(HL)"
  | .addA_A => "ADD A,A"
  | .adcA_B => "ADC A,B"
  | .adcA_C => "ADC A,C"
  | .adcA_D => "ADC A,D"
  | .adcA_E => "ADC A,E"
  | .adcA_H => "ADC A,H"
  | .adcA_L => "ADC A,L"
  | .adcA_atHL => "ADC A,(HL)"
  | .adcA_A => "ADC A,A"
  | .subB => "SUB B"
  | .subC => "SUB C"
  | .subD => "SUB D"
  | .subE => "SUB E"
  | .subH => "SUB H"
  | .subL => "SUB L"
  | .subAtHL => "SUB (HL)"
  | .subA => "SUB A"
  | .sbcA_B => "SBC A,B"
  | .sbcA_C => "SBC A,C"
  | .sbcA_D => "SBC A,D"
  | .sbcA_E => "SBC A,E"
  | .sbcA_H => "SBC A,H"
  | .sbcA_L => "SBC A,L"
  | .sbcA_atHL => "SBC A,(HL)"
  | .sbcA_A => "SBC A,A"
  | .andB => "AND B"
  | .andC => "AND C"
  | .andD => "AND D"
  | .andE => "AND E"
  | .andH => "AND H"
  | .andL => "AND L"
  | .andAtHL => "AND (HL)"
  | .andA => "AND A"
  | .xorB => "XOR B"
  | .xorC => "XOR C"
  | .xorD => "XOR D"
  | .xorE => "XOR E"
  | .xorH => "XOR H"
  | .xorL => "XOR L"
  | .xorAtHL => "XOR (HL)"
  | .xorA => "XOR A"
  | .orB => "OR B"
  | .orC => "OR C"
  | .orD => "OR D"
  | .orE => "OR E"
  | .orH => "OR H"
  | .orL => "OR L"
  | .orAtHL => "OR (HL)"
  | .orA => "OR A"
  | .cpB => "CP B"
  | .cpC => "CP C"
  | .cpD => "CP D"
  | .cpE => "CP E"
  | .cpH => "CP H"
  | .cpL => "CP L"
  | .cpAtHL => "CP (HL)"
  | .cpA => "CP A"
  | .retNZ => "RET NZ"
  | .popBC => "POP BC"
  | .jpNZ_nn _ => "JP NZ,nn"
  | .jp_nn _ => "JP nn"
  | .callNZ_nn _ => "CALL NZ,nn"
  | .pushBC => "PUSH BC"
  | .addA_n _ => "ADD A,n"
  | .rst00 => "RST 00h"
  | .retZ => "RET Z"
  | .ret => "RET"
  | .jpZ_nn _ => "JP Z,nn"
  | .prefixCB => "PREFIX CB"
  | .callZ_nn _ => "CALL Z,nn"
  | .call_nn _ => "CALL nn"
  | .adcA_n _ => "ADC A,n"
  | .rst08 => "RST 08h"
  | .retNC => "RET NC"
  | .popDE => "POP DE"
  | .jpNC_nn _ => "JP NC,nn"
  | .illegalD3 => "ILLEGAL 0xD3"
  | .callNC_nn _ => "CALL NC,nn"
  | .pushDE => "PUSH DE"
  | .sub_n _ => "SUB n"
  | .rst10 => "RST 10h"
  | .retC => "RET C"
  | .reti => "RETI"
  | .jpC_nn _ => "JP C,nn"
  | .illegalDB => "ILLEGAL 0xDB"
  | .callC_nn _ => "CALL C,nn"
  | .illegalDD => "ILLEGAL 0xDD"
  | .sbcA_n _ => "SBC A,n"
  | .rst18 => "RST 18h"
  | .ldhAtN_A _ => "LDH (n),A"
  | .popHL => "POP HL"
  | .ldhAtC_A => "LDH (C),A"
  | .illegalE3 => "ILLEGAL 0xE3"
  | .illegalE4 => "ILLEGAL 0xE4"
  | .pushHL => "PUSH HL"
  | .and_n _ => "AND n"
  | .rst20 => "RST 20h"
  | .addSP_e _ => "ADD SP,e"
  | .jpHL => "JP HL"
  | .ldAtNN_A _ => "LD (nn),A"
  | .illegalEB => "ILLEGAL 0xEB"
  | .illegalEC => "ILLEGAL 0xEC"
  | .illegalED => "ILLEGAL 0xED"
  | .xor_n _ => "XOR n"
  | .rst28 => "RST 28h"
  | .ldhA_atN _ => "LDH A,(n)"
  | .popAF => "POP AF"
  | .ldhA_atC => "LDH A,(C)"
  | .di => "DI"
  | .illegalF4 => "ILLEGAL 0xF4"
  | .pushAF => "PUSH AF"
  | .or_n _ => "OR n"
  | .rst30 => "RST 30h"
  | .ldHL_SPe _ => "LD HL,SP+e"
  | .ldSP_HL => "LD SP,HL"
  | .ldA_atNN _ => "LD A,(nn)"
  | .ei => "EI"
  | .illegalFC => "ILLEGAL 0xFC"
  | .illegalFD => "ILLEGAL 0xFD"
  | .cp_n _ => "CP n"
  | .rst38 => "RST 38h"
  | .rlcB => "RLC B"
  | .rlcC => "RLC C"
  | .rlcD => "RLC D"
  | .rlcE => "RLC E"
  | .rlcH => "RLC H"
  | .rlcL => "RLC L"
  | .rlcAtHL => "RLC (HL)"
  | .rlcA => "RLC A"
  | .rrcB => "RRC B"
  | .rrcC => "RRC C"
  | .rrcD => "RRC D"
  | .rrcE => "RRC E"
  | .rrcH => "RRC H"
  | .rrcL => "RRC L"
  | .rrcAtHL => "RRC (HL)"
  | .rrcA => "RRC A"
  | .rlB => "RL B"
  | .rlC => "RL C"
  | .rlD => "RL D"
  | .rlE => "RL E"
  | .rlH => "RL H"
  | .rlL => "RL L"
  | .rlAtHL => "RL (HL)"
  | .rlA => "RL A"
  | .rrB => "RR B"
  | .rrC => "RR C"
  | .rrD => "RR D"
  | .rrE => "RR E"
  | .rrH => "RR H"
  | .rrL => "RR L"
  | .rrAtHL => "RR (HL)"
  | .rrA => "RR A"
  | .slaB => "SLA B"
  | .slaC => "SLA C"
  | .slaD => "SLA D"
  | .slaE => "SLA E"
  | .slaH => "SLA H"
  | .slaL => "SLA L"
  | .slaAtHL => "SLA (HL)"
  | .slaA => "SLA A"
  | .sraB => "SRA B"
  | .sraC => "SRA C"
  | .sraD => "SRA D"
  | .sraE => "SRA E"
  | .sraH => "SRA H"
  | .sraL => "SRA L"
  | .sraAtHL => "SRA (HL)"
  | .sraA => "SRA A"
  | .swapB => "SWAP B"
  | .swapC => "SWAP C"
  | .swapD => "SWAP D"
  | .swapE => "SWAP E"
  | .swapH => "SWAP H"
  | .swapL => "SWAP L"
  | .swapAtHL => "SWAP (HL)"
  | .swapA => "SWAP A"
  | .srlB => "SRL B"
  | .srlC => "SRL C"
  | .srlD => "SRL D"
  | .srlE => "SRL E"
  | .srlH => "SRL H"
  | .srlL => "SRL L"
  | .srlAtHL => "SRL (HL)"
  | .srlA => "SRL A"
  | .bit0_B => "BIT 0,B"
  | .bit0_C => "BIT 0,C"
  | .bit0_D => "BIT 0,D"
  | .bit0_E => "BIT 0,E"
  | .bit0_H => "BIT 0,H"
  | .bit0_L => "BIT 0,L"
  | .bit0_atHL => "BIT 0,(HL)"
  | .bit0_A => "BIT 0,A"
  | .bit1_B => "BIT 1,B"
  | .bit1_C => "BIT 1,C"
  | .bit1_D => "BIT 1,D"
  | .bit1_E => "BIT 1,E"
  | .bit1_H => "BIT 1,H"
  | .bit1_L => "BIT 1,L"
  | .bit1_atHL => "BIT 1,(HL)"
  | .bit1_A => "BIT 1,A"
  | .bit2_B => "BIT 2,B"
  | .bit2_C => "BIT 2,C"
  | .bit2_D => "BIT 2,D"
  | .bit2_E => "BIT 2,E"
  | .bit2_H => "BIT 2,H"
  | .bit2_L => "BIT 2,L"
  | .bit2_atHL => "BIT 2,(HL)"
  | .bit2_A => "BIT 2,A"
  | .bit3_B => "BIT 3,B"
  | .bit3_C => "BIT 3,C"
  | .bit3_D => "BIT 3,D"
  | .bit3_E => "BIT 3,E"
  | .bit3_H => "BIT 3,H"
  | .bit3_L => "BIT 3,L"
  | .bit3_atHL => "BIT 3,(HL)"
  | .bit3_A => "BIT 3,A"
  | .bit4_B => "BIT 4,B"
  | .bit4_C => "BIT 4,C"
  | .bit4_D => "BIT 4,D"
  | .bit4_E => "BIT 4,E"
  | .bit4_H => "BIT 4,H"
  | .bit4_L => "BIT 4,L"
  | .bit4_atHL => "BIT 4,(HL)"
  | .bit4_A => "BIT 4,A"
  | .bit5_B => "BIT 5,B"
  | .bit5_C => "BIT 5,C"
  | .bit5_D => "BIT 5,D"
  | .bit5_E => "BIT 5,E"
  | .bit5_H => "BIT 5,H"
  | .bit5_L => "BIT 5,L"
  | .bit5_atHL => "BIT 5,(HL)"
  | .bit5_A => "BIT 5,A"
  | .bit6_B => "BIT 6,B"
  | .bit6_C => "BIT 6,C"
  | .bit6_D => "BIT 6,D"
  | .bit6_E => "BIT 6,E"
  | .bit6_H => "BIT 6,H"
  | .bit6_L => "BIT 6,L"
  | .bit6_atHL => "BIT 6,(HL)"
  | .bit6_A => "BIT 6,A"
  | .bit7_B => "BIT 7,B"
  | .bit7_C => "BIT 7,C"
  | .bit7_D => "BIT 7,D"
  | .bit7_E => "BIT 7,E"
  | .bit7_H => "BIT 7,H"
  | .bit7_L => "BIT 7,L"
  | .bit7_atHL => "BIT 7,(HL)"
  | .bit7_A => "BIT 7,A"
  | .res0_B => "RES 0,B"
  | .res0_C => "RES 0,C"
  | .res0_D => "RES 0,D"
  | .res0_E => "RES 0,E"
  | .res0_H => "RES 0,H"
  | .res0_L => "RES 0,L"
  | .res0_atHL => "RES 0,(HL)"
  | .res0_A => "RES 0,A"
  | .res1_B => "RES 1,B"
  | .res1_C => "RES 1,C"
  | .res1_D => "RES 1,D"
  | .res1_E => "RES 1,E"
  | .res1_H => "RES 1,H"
  | .res1_L => "RES 1,L"
  | .res1_atHL => "RES 1,(HL)"
  | .res1_A => "RES 1,A"
  | .res2_B => "RES 2,B"
  | .res2_C => "RES 2,C"
  | .res2_D => "RES 2,D"
  | .res2_E => "RES 2,E"
  | .res2_H => "RES 2,H"
  | .res2_L => "RES 2,L"
  | .res2_atHL => "RES 2,(HL)"
  | .res2_A => "RES 2,A"
  | .res3_B => "RES 3,B"
  | .res3_C => "RES 3,C"
  | .res3_D => "RES 3,D"
  | .res3_E => "RES 3,E"
  | .res3_H => "RES 3,H"
  | .res3_L => "RES 3,L"
  | .res3_atHL => "RES 3,(HL)"
  | .res3_A => "RES 3,A"
  | .res4_B => "RES 4,B"
  | .res4_C => "RES 4,C"
  | .res4_D => "RES 4,D"
  | .res4_E => "RES 4,E"
  | .res4_H => "RES 4,H"
  | .res4_L => "RES 4,L"
  | .res4_atHL => "RES 4,(HL)"
  | .res4_A => "RES 4,A"
  | .res5_B => "RES 5,B"
  | .res5_C => "RES 5,C"
  | .res5_D => "RES 5,D"
  | .res5_E => "RES 5,E"
  | .res5_H => "RES 5,H"
  | .res5_L => "RES 5,L"
  | .res5_atHL => "RES 5,(HL)"
  | .res5_A => "RES 5,A"
  | .res6_B => "RES 6,B"
  | .res6_C => "RES 6,C"
  | .res6_D => "RES 6,D"
  | .res6_E => "RES 6,E"
  | .res6_H => "RES 6,H"
  | .res6_L => "RES 6,L"
  | .res6_atHL => "RES 6,(HL)"
  | .res6_A => "RES 6,A"
  | .res7_B => "RES 7,B"
  | .res7_C => "RES 7,C"
  | .res7_D => "RES 7,D"
  | .res7_E => "RES 7,E"
  | .res7_H => "RES 7,H"
  | .res7_L => "RES 7,L"
  | .res7_atHL => "RES 7,(HL)"
  | .res7_A => "RES 7,A"
  | .set0_B => "SET 0,B"
  | .set0_C => "SET 0,C"
  | .set0_D => "SET 0,D"
  | .set0_E => "SET 0,E"
  | .set0_H => "SET 0,H"
  | .set0_L => "SET 0,L"
  | .set0_atHL => "SET 0,(HL)"
  | .set0_A => "SET 0,A"
  | .set1_B => "SET 1,B"
  | .set1_C => "SET 1,C"
  | .set1_D => "SET 1,D"
  | .set1_E => "SET 1,E"
  | .set1_H => "SET 1,H"
  | .set1_L => "SET 1,L"
  | .set1_atHL => "SET 1,(HL)"
  | .set1_A => "SET 1,A"
  | .set2_B => "SET 2,B"
  | .set2_C => "SET 2,C"
  | .set2_D => "SET 2,D"
  | .set2_E => "SET 2,E"
  | .set2_H => "SET 2,H"
  | .set2_L => "SET 2,L"
  | .set2_atHL => "SET 2,(HL)"
  | .set2_A => "SET 2,A"
  | .set3_B => "SET 3,B"
  | .set3_C => "SET 3,C"
  | .set3_D => "SET 3,D"
  | .set3_E => "SET 3,E"
  | .set3_H => "SET 3,H"
  | .set3_L => "SET 3,L"
  | .set3_atHL => "SET 3,(HL)"
  | .set3_A => "SET 3,A"
  | .set4_B => "SET 4,B"
  | .set4_C => "SET 4,C"
  | .set4_D => "SET 4,D"
  | .set4_E => "SET 4,E"
  | .set4_H => "SET 4,H"
  | .set4_L => "SET 4,L"
  | .set4_atHL => "SET 4,(HL)"
  | .set4_A => "SET 4,A"
  | .set5_B => "SET 5,B"
  | .set5_C => "SET 5,C"
  | .set5_D => "SET 5,D"
  | .set5_E => "SET 5,E"
  | .set5_H => "SET 5,H"
  | .set5_L => "SET 5,L"
  | .set5_atHL => "SET 5,(HL)"
  | .set5_A => "SET 5,A"
  | .set6_B => "SET 6,B"
  | .set6_C => "SET 6,C"
  | .set6_D => "SET 6,D"
  | .set6_E => "SET 6,E"
  | .set6_H => "SET 6,H"
  | .set6_L => "SET 6,L"
  | .set6_atHL => "SET 6,(HL)"
  | .set6_A => "SET 6,A"
  | .set7_B => "SET 7,B"
  | .set7_C => "SET 7,C"
  | .set7_D => "SET 7,D"
  | .set7_E => "SET 7,E"
  | .set7_H => "SET 7,H"
  | .set7_L => "SET 7,L"
  | .set7_atHL => "SET 7,(HL)"
  | .set7_A => "SET 7,A"

/-- The displacement byte of a JR at address `jr` for a target: e = target - (jr + 2), where it lies in -128 to 127 (R196). -/
def jrDisplacement (jr target : Word) : Option Byte :=
  let e := (target.toNat : Int) - (jr.toNat + 2)
  if -128 ≤ e ∧ e ≤ 127 then some (BitVec.ofInt 8 e) else none

end Sys2Proof.Machine
end

