-- ==== Sys2Proof/Tests/Slice0.lean ====
section
/-! SUPPORT. Checks on fixed values: the spec's own test vectors (95_test_vectors.md), one step each, with the expected values
copied from that file; instruction words written out from the opcode maps; and, for each statement with hypotheses, states and
operands that meet them. -/

namespace Sys2Proof.Tests

open Sys2Proof.Machine

/-! ### Helpers -/

/-- The start state S0 of 95_test_vectors.md. -/
def s0 : State := { State.reset with bus := { State.reset.bus with ifReg := 0 }, cart := some blankCartridge }

/-- S0's registers. -/
def r0 : Regs := s0.regs

/-- S0 with registers, the instruction's bytes at 0x0100 and bytes of memory set. -/
def vec (code : List Byte) (r : Regs) (mem : List (Word × Byte)) : State :=
  mem.foldl (fun s c => s.place c.1 c.2) ({ s0 with regs := r }.placeAll 0x0100 code)

/-- One step: the registers, the cycles and some bytes after it. -/
def after (s : State) (addrs : List Word) : Option (Regs × Nat × List Byte) :=
  match step s with
  | .next t => some (t.regs, t.cycles, addrs.map t.peek)
  | .fault _ => none
  | .refused _ => none

/-- S0 with LCDC = 0x00, the bytes at 0x0100 and a change made. -/
def quiet (code : List Byte) (change : State → State) : State :=
  change (({ s0 with video := { s0.video with lcdc := 0x00 } } : State).placeAll 0x0100 code)

def pcAt (a : Word) (s : State) : State := { s with regs := { s.regs with pc := a } }

/-- One step: pc, IME, `ime_pending`, the run state, IF and the cycles after it. -/
def sees (s : State) : Option (Word × Bool × Bool × RunState × BitVec 5 × Nat) :=
  match step s with
  | .next t => some (t.regs.pc, t.ime, t.imePending, t.runState, t.bus.ifReg, t.cycles)
  | .fault _ => none
  | .refused _ => none

/-- One step: the timer and IF after it. -/
def timerOf (s : State) : Option (Timer × BitVec 5) :=
  match step s with
  | .next t => some (t.bus.timer, t.bus.ifReg)
  | .fault _ => none
  | .refused _ => none

def withTimer (s : State) (x : Timer) : State := { s with bus := { s.bus with timer := x } }

/-- A ROM image of `size` bytes with a type byte, a ROM size code, a RAM size code and other bytes set. -/
def romImage (size : Nat) (kind romCode ramCode : Byte) (bytes : List Host.Cell) : Image :=
  { size := size, cells := Memory.normal ([(0x147, kind), (0x148, romCode), (0x149, ramCode)] ++ bytes) }

/-- S0 with an image loaded. -/
def inserted (rom : Image) : State :=
  match loadCartridge rom [] 0 with
  | .ok c => { s0 with cart := some c }
  | .error _ => { s0 with cart := none }

def writes (s : State) (l : List (Word × Byte)) : State := l.foldl (fun s c => s.afterWrite c.1 c.2) s

def mirrored : State := { s0 with params := { s0.params with echoMirror := true } }

/-- A boot image whose byte i is 0xB0 + (i mod 16). -/
def bootImage : List Byte := (List.range 256).map fun i => BitVec.ofNat 8 (0xB0 + i % 16)

/-- A machine built with that boot image and a ROM with 0xC5 at 0x0050. -/
def booting : State :=
  State.construct { Params.default with rom := romImage 0x8000 0x00 0x00 0x00 [(0x50, 0xC5)], bootRom := some bootImage } 0

/-- MBC3 with its clock at 0 and its RAM enabled. -/
def clocked : State := (inserted (romImage 0x8000 0x10 0x00 0x03 [])).afterWrite 0x0000 0x0A

/-- MBC1 with 128 banks; byte 0 of bank b is b. -/
def mbc1Big : State :=
  inserted (romImage 0x200000 0x01 0x06 0x00 [(0x4000, 1), (0x100000, 64), (0x104000, 65), (0x114000, 69)])

/-- MBC5 with 512 banks; bytes 0 and 1 of bank b are b mod 256 and b div 256. -/
def mbc5Big : State := inserted (romImage 0x800000 0x19 0x08 0x00 [(0x4000, 1), (0x4B0000, 0x2C), (0x4B0001, 1)])

def mbc2Cart : State := inserted (romImage 0x40000 0x06 0x03 0x00 [(0xC000, 3)])

/-- S0's video engine on a line, at a cycle, in a mode. -/
def lineAt (ly cycle : Nat) (m : Mode) : State :=
  { s0 with video := { s0.video with ly := ly, lineCycle := cycle, mode := m } }

/-- The scene of W7: sprites as (Y, X, tile, attributes), tile 0 solid in the given color, tile 1 solid 1, tile 2 solid 2. -/
def scene (sprites : List (Byte × Byte × Byte × Byte)) (back : Nat) : Video :=
  let tile := fun (n color : Nat) => (List.range 16).map fun i =>
    ((16 * n + i, if color.testBit (i % 2) then 0xFF else 0x00) : Host.Cell)
  let oam := (sprites.zipIdx).flatMap fun p =>
    [(4 * p.2, p.1.1), (4 * p.2 + 1, p.1.2.1), (4 * p.2 + 2, p.1.2.2.1), (4 * p.2 + 3, p.1.2.2.2)]
  let v : Video := { s0.video with
    lcdc := 0x93
    bgp := 0xE4
    obp0 := 0xE4
    vram := Memory.normal (tile 0 back ++ tile 1 1 ++ tile 2 2)
    oam := Memory.normal oam }
  { v with spriteBuf := oamScan v }

/-! ### Encoding -/

/-- The only ill-formed terms are the lone prefix byte's. -/
theorem test_wellformed_refuses_prefix : Instr.prefixCB.wellFormed = false ∧ (Instr.rlcB).wellFormed = true ∧
    (Instr.ldA_n 0xFF).wellFormed = true ∧ Instr.illegalFD.wellFormed = true := by decide

/-- 0b01_101_010: LD L,D (R182). 0b11_110_000 and the byte: LDH A,(n) (R191). -/
theorem test_decode_load8 : decode [0b01101010] = .ok (.ldL_D, []) ∧ decode [0b11110000, 0x44] = .ok (.ldhA_atN 0x44, []) := by decide

/-- 0b00_01_0001 and a word, low byte first: LD DE,nn; 0b11_11_0001: POP AF (R183). -/
theorem test_decode_load16 : decode [0b00010001, 0x34, 0x12, 0x99] = .ok (.ldDE_nn 0x1234, [0x99]) ∧
    decode [0b11110001] = .ok (.popAF, []) := by decide

/-- 0b10_011_011: SBC A,E; 0b11_111_110 and the byte: CP n (R186). -/
theorem test_decode_alu8 : decode [0b10011011] = .ok (.sbcA_E, []) ∧ decode [0b11111110, 0x2F] = .ok (.cp_n 0x2F, []) := by decide

/-- 0b00_11_1001: ADD HL,SP; 0b00_11_1011: DEC SP (R183). -/
theorem test_decode_alu16 : decode [0b00111001] = .ok (.addHL_SP, []) ∧ decode [0b00111011] = .ok (.decSP, []) := by decide

/-- 0xCB, 0b00_110_111: SWAP A; 0xCB, 0b10_011_110: RES 3,(HL) (R188). -/
theorem test_decode_rotate : decode [0xCB, 0b00110111] = .ok (.swapA, []) ∧ decode [0xCB, 0b10011110] = .ok (.res3_atHL, []) := by
  decide

/-- 0b110_10_100 and a word: CALL NC,nn; 0b11_011_111: RST 18h (R185, R189). -/
theorem test_decode_control : decode [0b11010100, 0x00, 0x02] = .ok (.callNC_nn 0x0200, []) ∧
    decode [0b11011111] = .ok (.rst18, []) := by decide

/-- 0xF3: DI; 0xFB: EI; 0xFD is illegal; a truncated word is refused (R191, R193). -/
theorem test_decode_system : decode [0xF3] = .ok (.di, []) ∧ decode [0xFB] = .ok (.ei, []) ∧ decode [0xFD] = .ok (.illegalFD, []) ∧
    (match decode [0xEA, 0x00] with | .ok _ => true | .error _ => false) = false := by decide

/-- The opcode table's numbering: an extended opcode's word is 0xCB and the second byte, another's its bytes, low byte first. -/
theorem test_decode_table_word : decodeTableWord 16 0xCB37 = some .swapA ∧ decodeTableWord 8 0x76 = some .halt := by decide

/-- The step runs a placed word first after reset. -/
theorem test_fetch_word : sees (State.reset.withFetchWord 8 0x76) = some (0x0101, false, false, .halted, 0x01, 4) := by decide

/-- The map's spellings, and the displacement of JR NZ,0x0104 at 0x0106 in program P1 (R196). -/
theorem test_assembly : mnemonic .ldA_atHLI = "LD A,(HL+)" ∧ mnemonic .set1_E = "SET 1,E" ∧ jrDisplacement 0x0106 0x0104 = some 0xFC := by
  decide

/-! ### The instructions' vectors (95_test_vectors.md, 2.1 to 2.6) -/

/-- L1 of 95_test_vectors.md (R221). -/
theorem test_vector_L1 : after (vec [0x06, 0x42] r0 []) [] =
    some ({ r0 with b := 0x42, pc := 0x0102 }, 8, []) := by decide

/-- L2 of 95_test_vectors.md (R220). -/
theorem test_vector_L2 : after (vec [0x53] { r0 with e := 0x77 } []) [] =
    some ({ r0 with e := 0x77, d := 0x77, pc := 0x0101 }, 4, []) := by decide

/-- L3 of 95_test_vectors.md (R226). -/
theorem test_vector_L3 : after (vec [0x1A] { r0 with d := 0xC0, e := 0x10 } [(0xC010, 0x9C)]) [] =
    some ({ r0 with d := 0xC0, e := 0x10, a := 0x9C, pc := 0x0101 }, 8, []) := by decide

/-- L4 of 95_test_vectors.md (R224). -/
theorem test_vector_L4 : after (vec [0x36, 0x5A] { r0 with h := 0xC0, l := 0x20 } []) [0xC020] =
    some ({ r0 with h := 0xC0, l := 0x20, pc := 0x0102 }, 12, [0x5A]) := by decide

/-- L5 of 95_test_vectors.md (R227). -/
theorem test_vector_L5 : after (vec [0x02] { r0 with b := 0xC0, c := 0x30, a := 0x3C } []) [0xC030] =
    some ({ r0 with b := 0xC0, c := 0x30, a := 0x3C, pc := 0x0101 }, 8, [0x3C]) := by decide

/-- L6 of 95_test_vectors.md (R235). -/
theorem test_vector_L6 : after (vec [0x22] { r0 with a := 0x56, h := 0xC0, l := 0xFF } []) [0xC0FF] =
    some ({ r0 with a := 0x56, h := 0xC1, l := 0x00, pc := 0x0101 }, 8, [0x56]) := by decide

/-- L7 of 95_test_vectors.md (R237). -/
theorem test_vector_L7 : after (vec [0x2A] { r0 with h := 0xC0, l := 0xFF } [(0xC0FF, 0xA5)]) [] =
    some ({ r0 with h := 0xC1, l := 0x00, a := 0xA5, pc := 0x0101 }, 8, []) := by decide

/-- L8 of 95_test_vectors.md (R238). -/
theorem test_vector_L8 : after (vec [0x3A] { r0 with h := 0xC0, l := 0x00 } []) [] =
    some ({ r0 with h := 0xBF, l := 0xFF, a := 0x00, pc := 0x0101 }, 8, []) := by decide

/-- L9 of 95_test_vectors.md (R232). -/
theorem test_vector_L9 : after (vec [0xE0, 0x80] { r0 with a := 0x12 } []) [0xFF80] =
    some ({ r0 with a := 0x12, pc := 0x0102 }, 12, [0x12]) := by decide

/-- L10 of 95_test_vectors.md (R231). -/
theorem test_vector_L10 : after (vec [0xF0, 0x80] r0 [(0xFF80, 0x3B)]) [] =
    some ({ r0 with a := 0x3B, pc := 0x0102 }, 12, []) := by decide

/-- L11 of 95_test_vectors.md (R234). -/
theorem test_vector_L11 : after (vec [0xE2] { r0 with c := 0x80, a := 0x44 } []) [0xFF80] =
    some ({ r0 with c := 0x80, a := 0x44, pc := 0x0101 }, 8, [0x44]) := by decide

/-- L13 of 95_test_vectors.md (R230). -/
theorem test_vector_L13 : after (vec [0xEA, 0x00, 0xD0] { r0 with a := 0x77 } []) [0xD000] =
    some ({ r0 with a := 0x77, pc := 0x0103 }, 16, [0x77]) := by decide

/-- S1 of 95_test_vectors.md (R260). -/
theorem test_vector_S1 : after (vec [0x31, 0x34, 0x12] r0 []) [] =
    some ({ r0 with sp := 0x1234, pc := 0x0103 }, 12, []) := by decide

/-- S2 of 95_test_vectors.md (R261). -/
theorem test_vector_S2 : after (vec [0x08, 0x00, 0xC1] { r0 with sp := 0xFFF8 } []) [0xC100, 0xC101] =
    some ({ r0 with sp := 0xFFF8, pc := 0x0103 }, 20, [0xF8, 0xFF]) := by decide

/-- S3 of 95_test_vectors.md (R263). -/
theorem test_vector_S3 : after (vec [0xC5] { r0 with b := 0x12, c := 0x34 } []) [0xFFFD, 0xFFFC] =
    some ({ r0 with b := 0x12, c := 0x34, sp := 0xFFFC, pc := 0x0101 }, 16, [0x12, 0x34]) := by decide

/-- S4 of 95_test_vectors.md (R263). -/
theorem test_vector_S4 : after (vec [0xF5] { r0 with a := 0x12, f := 0xB0 } []) [0xFFFD, 0xFFFC] =
    some ({ r0 with a := 0x12, f := 0xB0, sp := 0xFFFC, pc := 0x0101 }, 16, [0x12, 0xB0]) := by decide

/-- S6 of 95_test_vectors.md (R264). -/
theorem test_vector_S6 : after (vec [0xC1] { r0 with sp := 0xFFFC, f := 0x00 } [(0xFFFC, 0x34), (0xFFFD, 0x12)]) [] =
    some ({ r0 with sp := 0xFFFE, f := 0x00, b := 0x12, c := 0x34, pc := 0x0101 }, 12, []) := by decide

/-- S7 of 95_test_vectors.md (R262). -/
theorem test_vector_S7 : after (vec [0xF9] { r0 with h := 0xC1, l := 0x23 } []) [] =
    some ({ r0 with h := 0xC1, l := 0x23, sp := 0xC123, pc := 0x0101 }, 8, []) := by decide

/-- S8 of 95_test_vectors.md (R266). -/
theorem test_vector_S8 : after (vec [0xF8, 0x02] { r0 with sp := 0xFFF8, f := 0x00 } []) [] =
    some ({ r0 with sp := 0xFFF8, f := 0x00, h := 0xFF, l := 0xFA, pc := 0x0102 }, 12, []) := by decide

/-- S9 of 95_test_vectors.md (R266). -/
theorem test_vector_S9 : after (vec [0xF8, 0xF8] { r0 with sp := 0xFFF8, f := 0x00 } []) [] =
    some ({ r0 with sp := 0xFFF8, f := 0x30, h := 0xFF, l := 0xF0, pc := 0x0102 }, 12, []) := by decide

/-- A1 of 95_test_vectors.md (R281). -/
theorem test_vector_A1 : after (vec [0x80] { r0 with a := 0x3A, b := 0xC6, f := 0x00 } []) [] =
    some ({ r0 with a := 0x00, b := 0xC6, f := 0xB0, pc := 0x0101 }, 4, []) := by decide

/-- A3 of 95_test_vectors.md (R281). -/
theorem test_vector_A3 : after (vec [0x86] { r0 with a := 0xF0, h := 0xC0, l := 0x00, f := 0x00 } [(0xC000, 0x20)]) [] =
    some ({ r0 with a := 0x10, h := 0xC0, l := 0x00, f := 0x10, pc := 0x0101 }, 8, []) := by decide

/-- A4 of 95_test_vectors.md (R282). -/
theorem test_vector_A4 : after (vec [0xCE, 0x0F] { r0 with a := 0xE1, f := 0x10 } []) [] =
    some ({ r0 with a := 0xF1, f := 0x20, pc := 0x0102 }, 8, []) := by decide

/-- A5 of 95_test_vectors.md (R282). -/
theorem test_vector_A5 : after (vec [0xCE, 0x00] { r0 with a := 0xFF, f := 0x10 } []) [] =
    some ({ r0 with a := 0x00, f := 0xB0, pc := 0x0102 }, 8, []) := by decide

/-- A7 of 95_test_vectors.md (R283). -/
theorem test_vector_A7 : after (vec [0x90] { r0 with a := 0x3E, b := 0x3E, f := 0x00 } []) [] =
    some ({ r0 with a := 0x00, b := 0x3E, f := 0xC0, pc := 0x0101 }, 4, []) := by decide

/-- A8 of 95_test_vectors.md (R283). -/
theorem test_vector_A8 : after (vec [0xD6, 0x0F] { r0 with a := 0x3E, f := 0x00 } []) [] =
    some ({ r0 with a := 0x2F, f := 0x60, pc := 0x0102 }, 8, []) := by decide

/-- A9 of 95_test_vectors.md (R283). -/
theorem test_vector_A9 : after (vec [0xD6, 0x40] { r0 with a := 0x3E, f := 0x00 } []) [] =
    some ({ r0 with a := 0xFE, f := 0x50, pc := 0x0102 }, 8, []) := by decide

/-- A10 of 95_test_vectors.md (R284). -/
theorem test_vector_A10 : after (vec [0x9C] { r0 with a := 0x3B, h := 0x2A, f := 0x10 } []) [] =
    some ({ r0 with a := 0x10, h := 0x2A, f := 0x40, pc := 0x0101 }, 4, []) := by decide

/-- A11 of 95_test_vectors.md (R284). -/
theorem test_vector_A11 : after (vec [0xDE, 0x00] { r0 with a := 0x00, f := 0x10 } []) [] =
    some ({ r0 with a := 0xFF, f := 0x70, pc := 0x0102 }, 8, []) := by decide

/-- A13 of 95_test_vectors.md (R284). -/
theorem test_vector_A13 : after (vec [0x98] { r0 with a := 0x10, b := 0x00, f := 0x10 } []) [] =
    some ({ r0 with a := 0x0F, b := 0x00, f := 0x60, pc := 0x0101 }, 4, []) := by decide

/-- A15 of 95_test_vectors.md (R285). -/
theorem test_vector_A15 : after (vec [0xE6, 0xA5] { r0 with a := 0x5A, f := 0x00 } []) [] =
    some ({ r0 with a := 0x00, f := 0xA0, pc := 0x0102 }, 8, []) := by decide

/-- A16 of 95_test_vectors.md (R286). -/
theorem test_vector_A16 : after (vec [0xAF] { r0 with a := 0xFF, f := 0x70 } []) [] =
    some ({ r0 with a := 0x00, f := 0x80, pc := 0x0101 }, 4, []) := by decide

/-- A17 of 95_test_vectors.md (R286). -/
theorem test_vector_A17 : after (vec [0xEE, 0x0F] { r0 with a := 0xFF, f := 0x00 } []) [] =
    some ({ r0 with a := 0xF0, f := 0x00, pc := 0x0102 }, 8, []) := by decide

/-- A20 of 95_test_vectors.md (R288). -/
theorem test_vector_A20 : after (vec [0xFE, 0x2F] { r0 with a := 0x3C, f := 0x00 } []) [] =
    some ({ r0 with a := 0x3C, f := 0x60, pc := 0x0102 }, 8, []) := by decide

/-- A22 of 95_test_vectors.md (R288). -/
theorem test_vector_A22 : after (vec [0xFE, 0x40] { r0 with a := 0x3C, f := 0x00 } []) [] =
    some ({ r0 with a := 0x3C, f := 0x50, pc := 0x0102 }, 8, []) := by decide

/-- A23 of 95_test_vectors.md (R288). -/
theorem test_vector_A23 : after (vec [0xBE] { r0 with a := 0x10, h := 0xC0, l := 0x00, f := 0x00 } [(0xC000, 0x10)]) [] =
    some ({ r0 with a := 0x10, h := 0xC0, l := 0x00, f := 0xC0, pc := 0x0101 }, 8, []) := by decide

/-- A24 of 95_test_vectors.md (R289). -/
theorem test_vector_A24 : after (vec [0x3C] { r0 with a := 0xFF, f := 0x10 } []) [] =
    some ({ r0 with a := 0x00, f := 0xB0, pc := 0x0101 }, 4, []) := by decide

/-- A25 of 95_test_vectors.md (R289). -/
theorem test_vector_A25 : after (vec [0x04] { r0 with b := 0x0F, f := 0x00 } []) [] =
    some ({ r0 with b := 0x10, f := 0x20, pc := 0x0101 }, 4, []) := by decide

/-- A26 of 95_test_vectors.md (R290). -/
theorem test_vector_A26 : after (vec [0x34] { r0 with h := 0xC0, l := 0x00 } [(0xC000, 0x00)]) [0xC000] =
    some ({ r0 with h := 0xC0, l := 0x00, f := 0x10, pc := 0x0101 }, 12, [0x01]) := by decide

/-- A27 of 95_test_vectors.md (R291). -/
theorem test_vector_A27 : after (vec [0x3D] { r0 with a := 0x01, f := 0x00 } []) [] =
    some ({ r0 with a := 0x00, f := 0xC0, pc := 0x0101 }, 4, []) := by decide

/-- A28 of 95_test_vectors.md (R291). -/
theorem test_vector_A28 : after (vec [0x3D] { r0 with a := 0x00, f := 0x00 } []) [] =
    some ({ r0 with a := 0xFF, f := 0x60, pc := 0x0101 }, 4, []) := by decide

/-- A29 of 95_test_vectors.md (R292). -/
theorem test_vector_A29 : after (vec [0x35] { r0 with h := 0xC0, l := 0x00, f := 0x00 } [(0xC000, 0x10)]) [0xC000] =
    some ({ r0 with h := 0xC0, l := 0x00, f := 0x60, pc := 0x0101 }, 12, [0x0F]) := by decide

/-- A34 of 95_test_vectors.md (R293). -/
theorem test_vector_A34 : after (vec [0x27] { r0 with a := 0x9A, f := 0x00 } []) [] =
    some ({ r0 with a := 0x00, f := 0x90, pc := 0x0101 }, 4, []) := by decide

/-- A35 of 95_test_vectors.md (R293). -/
theorem test_vector_A35 : after (vec [0x27] { r0 with a := 0x00, f := 0x70 } []) [] =
    some ({ r0 with a := 0x9A, f := 0x50, pc := 0x0101 }, 4, []) := by decide

/-- A36 of 95_test_vectors.md (R294). -/
theorem test_vector_A36 : after (vec [0x2F] { r0 with a := 0x35, f := 0x00 } []) [] =
    some ({ r0 with a := 0xCA, f := 0x60, pc := 0x0101 }, 4, []) := by decide

/-- A37 of 95_test_vectors.md (R295). -/
theorem test_vector_A37 : after (vec [0x37] { r0 with f := 0xE0 } []) [] =
    some ({ r0 with f := 0x90, pc := 0x0101 }, 4, []) := by decide

/-- A38 of 95_test_vectors.md (R296). -/
theorem test_vector_A38 : after (vec [0x3F] { r0 with f := 0x70 } []) [] =
    some ({ r0 with f := 0x00, pc := 0x0101 }, 4, []) := by decide

/-- W-1 of 95_test_vectors.md (R320). -/
theorem test_vector_word1 : after (vec [0x09] { r0 with h := 0x8A, l := 0x23, b := 0x06, c := 0x05, f := 0x80 } []) [] =
    some ({ r0 with h := 0x90, l := 0x28, b := 0x06, c := 0x05, f := 0xA0, pc := 0x0101 }, 8, []) := by decide

/-- W-2 of 95_test_vectors.md (R320). -/
theorem test_vector_word2 : after (vec [0x29] { r0 with h := 0x8A, l := 0x23, f := 0x00 } []) [] =
    some ({ r0 with h := 0x14, l := 0x46, f := 0x30, pc := 0x0101 }, 8, []) := by decide

/-- W-3 of 95_test_vectors.md (R320). -/
theorem test_vector_word3 : after (vec [0x19] { r0 with h := 0xFF, l := 0xFF, d := 0x00, e := 0x01, f := 0x80 } []) [] =
    some ({ r0 with h := 0x00, l := 0x00, d := 0x00, e := 0x01, f := 0xB0, pc := 0x0101 }, 8, []) := by decide

/-- W-4 of 95_test_vectors.md (R321). -/
theorem test_vector_word4 : after (vec [0x03] { r0 with b := 0xFF, c := 0xFF, f := 0xF0 } []) [] =
    some ({ r0 with b := 0x00, c := 0x00, f := 0xF0, pc := 0x0101 }, 8, []) := by decide

/-- W-5 of 95_test_vectors.md (R322). -/
theorem test_vector_word5 : after (vec [0x3B] { r0 with sp := 0x0000, f := 0x00 } []) [] =
    some ({ r0 with sp := 0xFFFF, f := 0x00, pc := 0x0101 }, 8, []) := by decide

/-- W-6 of 95_test_vectors.md (R323). -/
theorem test_vector_word6 : after (vec [0xE8, 0x02] { r0 with sp := 0xFFF8, f := 0xF0 } []) [] =
    some ({ r0 with sp := 0xFFFA, f := 0x00, pc := 0x0102 }, 16, []) := by decide

/-- W-9 of 95_test_vectors.md (R323). -/
theorem test_vector_word9 : after (vec [0xE8, 0xFF] { r0 with sp := 0x0001, f := 0x00 } []) [] =
    some ({ r0 with sp := 0x0000, f := 0x30, pc := 0x0102 }, 16, []) := by decide

/-- B1 of 95_test_vectors.md (R340). -/
theorem test_vector_B1 : after (vec [0x07] { r0 with a := 0x85, f := 0x80 } []) [] =
    some ({ r0 with a := 0x0B, f := 0x10, pc := 0x0101 }, 4, []) := by decide

/-- B2 of 95_test_vectors.md (R341). -/
theorem test_vector_B2 : after (vec [0x0F] { r0 with a := 0x01, f := 0x00 } []) [] =
    some ({ r0 with a := 0x80, f := 0x10, pc := 0x0101 }, 4, []) := by decide

/-- B3 of 95_test_vectors.md (R342). -/
theorem test_vector_B3 : after (vec [0x17] { r0 with a := 0x80, f := 0x00 } []) [] =
    some ({ r0 with a := 0x00, f := 0x10, pc := 0x0101 }, 4, []) := by decide

/-- B4 of 95_test_vectors.md (R343). -/
theorem test_vector_B4 : after (vec [0x1F] { r0 with a := 0x01, f := 0x10 } []) [] =
    some ({ r0 with a := 0x80, f := 0x10, pc := 0x0101 }, 4, []) := by decide

/-- B5 of 95_test_vectors.md (R345). -/
theorem test_vector_B5 : after (vec [0xCB, 0x00] { r0 with b := 0x00, f := 0x00 } []) [] =
    some ({ r0 with b := 0x00, f := 0x80, pc := 0x0102 }, 8, []) := by decide

/-- B6 of 95_test_vectors.md (R345). -/
theorem test_vector_B6 : after (vec [0xCB, 0x06] { r0 with h := 0xC0, l := 0x00, f := 0x00 } [(0xC000, 0x80)]) [0xC000] =
    some ({ r0 with h := 0xC0, l := 0x00, f := 0x10, pc := 0x0102 }, 16, [0x01]) := by decide

/-- B7 of 95_test_vectors.md (R346). -/
theorem test_vector_B7 : after (vec [0xCB, 0x09] { r0 with c := 0x01, f := 0x00 } []) [] =
    some ({ r0 with c := 0x80, f := 0x10, pc := 0x0102 }, 8, []) := by decide

/-- B8 of 95_test_vectors.md (R347). -/
theorem test_vector_B8 : after (vec [0xCB, 0x12] { r0 with d := 0x80, f := 0x00 } []) [] =
    some ({ r0 with d := 0x00, f := 0x90, pc := 0x0102 }, 8, []) := by decide

/-- B9 of 95_test_vectors.md (R348). -/
theorem test_vector_B9 : after (vec [0xCB, 0x1B] { r0 with e := 0x01, f := 0x10 } []) [] =
    some ({ r0 with e := 0x80, f := 0x10, pc := 0x0102 }, 8, []) := by decide

/-- B10 of 95_test_vectors.md (R349). -/
theorem test_vector_B10 : after (vec [0xCB, 0x24] { r0 with h := 0x80, f := 0x00 } []) [] =
    some ({ r0 with h := 0x00, f := 0x90, pc := 0x0102 }, 8, []) := by decide

/-- B11 of 95_test_vectors.md (R350). -/
theorem test_vector_B11 : after (vec [0xCB, 0x2D] { r0 with l := 0x81, f := 0x00 } []) [] =
    some ({ r0 with l := 0xC0, f := 0x10, pc := 0x0102 }, 8, []) := by decide

/-- B12 of 95_test_vectors.md (R351). -/
theorem test_vector_B12 : after (vec [0xCB, 0x37] { r0 with a := 0xF0, f := 0x10 } []) [] =
    some ({ r0 with a := 0x0F, f := 0x00, pc := 0x0102 }, 8, []) := by decide

/-- B13 of 95_test_vectors.md (R351). -/
theorem test_vector_B13 : after (vec [0xCB, 0x37] { r0 with a := 0x00, f := 0x10 } []) [] =
    some ({ r0 with a := 0x00, f := 0x80, pc := 0x0102 }, 8, []) := by decide

/-- B14 of 95_test_vectors.md (R351). -/
theorem test_vector_B14 : after (vec [0xCB, 0x36] { r0 with h := 0xC0, l := 0x00, f := 0x00 } [(0xC000, 0x12)]) [0xC000] =
    some ({ r0 with h := 0xC0, l := 0x00, f := 0x00, pc := 0x0102 }, 16, [0x21]) := by decide

/-- B15 of 95_test_vectors.md (R352). -/
theorem test_vector_B15 : after (vec [0xCB, 0x3F] { r0 with a := 0x01, f := 0x00 } []) [] =
    some ({ r0 with a := 0x00, f := 0x90, pc := 0x0102 }, 8, []) := by decide

/-- B16 of 95_test_vectors.md (R353). -/
theorem test_vector_B16 : after (vec [0xCB, 0x7C] { r0 with h := 0x7F, f := 0x10 } []) [] =
    some ({ r0 with h := 0x7F, f := 0xB0, pc := 0x0102 }, 8, []) := by decide

/-- B17 of 95_test_vectors.md (R353). -/
theorem test_vector_B17 : after (vec [0xCB, 0x5F] { r0 with a := 0x08, f := 0x00 } []) [] =
    some ({ r0 with a := 0x08, f := 0x20, pc := 0x0102 }, 8, []) := by decide

/-- B18 of 95_test_vectors.md (R353). -/
theorem test_vector_B18 : after (vec [0xCB, 0x46] { r0 with h := 0xC0, l := 0x00, f := 0x00 } [(0xC000, 0x00)]) [] =
    some ({ r0 with h := 0xC0, l := 0x00, f := 0xA0, pc := 0x0102 }, 12, []) := by decide

/-- B19 of 95_test_vectors.md (R354). -/
theorem test_vector_B19 : after (vec [0xCB, 0x87] { r0 with a := 0xFF, f := 0x00 } []) [] =
    some ({ r0 with a := 0xFE, f := 0x00, pc := 0x0102 }, 8, []) := by decide

/-- B20 of 95_test_vectors.md (R354). -/
theorem test_vector_B20 : after (vec [0xCB, 0x9E] { r0 with h := 0xC0, l := 0x00, f := 0x00 } [(0xC000, 0xFF)]) [0xC000] =
    some ({ r0 with h := 0xC0, l := 0x00, f := 0x00, pc := 0x0102 }, 16, [0xF7]) := by decide

/-- B21 of 95_test_vectors.md (R355). -/
theorem test_vector_B21 : after (vec [0xCB, 0xFE] { r0 with h := 0xC0, l := 0x00, f := 0xF0 } [(0xC000, 0x00)]) [0xC000] =
    some ({ r0 with h := 0xC0, l := 0x00, f := 0xF0, pc := 0x0102 }, 16, [0x80]) := by decide

/-- J1 of 95_test_vectors.md (R380). -/
theorem test_vector_J1 : after (vec [0xC3, 0x00, 0x02] r0 []) [] =
    some ({ r0 with pc := 0x0200 }, 16, []) := by decide

/-- J2 of 95_test_vectors.md (R381). -/
theorem test_vector_J2 : after (vec [0xC2, 0x00, 0x02] { r0 with f := 0x80 } []) [] =
    some ({ r0 with f := 0x80, pc := 0x0103 }, 12, []) := by decide

/-- J3 of 95_test_vectors.md (R381). -/
theorem test_vector_J3 : after (vec [0xCA, 0x00, 0x02] { r0 with f := 0x80 } []) [] =
    some ({ r0 with f := 0x80, pc := 0x0200 }, 16, []) := by decide

/-- J4 of 95_test_vectors.md (R382). -/
theorem test_vector_J4 : after (vec [0xE9] { r0 with h := 0x40, l := 0x00 } []) [] =
    some ({ r0 with h := 0x40, l := 0x00, pc := 0x4000 }, 4, []) := by decide

/-- J5 of 95_test_vectors.md (R383). -/
theorem test_vector_J5 : after (vec [0x18, 0xFE] r0 []) [] =
    some ({ r0 with pc := 0x0100 }, 12, []) := by decide

/-- J7 of 95_test_vectors.md (R383). -/
theorem test_vector_J7 : after (vec [0x18, 0x80] r0 []) [] =
    some ({ r0 with pc := 0x0082 }, 12, []) := by decide

/-- J8 of 95_test_vectors.md (R384). -/
theorem test_vector_J8 : after (vec [0x38, 0x05] { r0 with f := 0x00 } []) [] =
    some ({ r0 with f := 0x00, pc := 0x0102 }, 8, []) := by decide

/-- J9 of 95_test_vectors.md (R384). -/
theorem test_vector_J9 : after (vec [0x20, 0x05] { r0 with f := 0x00 } []) [] =
    some ({ r0 with f := 0x00, pc := 0x0107 }, 12, []) := by decide

set_option maxRecDepth 4000 in
/-- J10 of 95_test_vectors.md (R385). -/
theorem test_vector_J10 : after (vec [0xCD, 0x00, 0x02] r0 []) [0xFFFD, 0xFFFC] =
    some ({ r0 with pc := 0x0200, sp := 0xFFFC }, 24, [0x01, 0x03]) := by decide

/-- J11 of 95_test_vectors.md (R386). -/
theorem test_vector_J11 : after (vec [0xCC, 0x00, 0x02] { r0 with f := 0x00 } []) [] =
    some ({ r0 with f := 0x00, pc := 0x0103, sp := 0xFFFE }, 12, []) := by decide

set_option maxRecDepth 4000 in
/-- J12 of 95_test_vectors.md (R386). -/
theorem test_vector_J12 : after (vec [0xD4, 0x00, 0x02] { r0 with f := 0x00 } []) [0xFFFD, 0xFFFC] =
    some ({ r0 with f := 0x00, pc := 0x0200, sp := 0xFFFC }, 24, [0x01, 0x03]) := by decide

/-- J13 of 95_test_vectors.md (R387). -/
theorem test_vector_J13 : after (vec [0xC9] { r0 with sp := 0xFFFC } [(0xFFFC, 0x34), (0xFFFD, 0x12)]) [] =
    some ({ r0 with sp := 0xFFFE, pc := 0x1234 }, 16, []) := by decide

/-- J14 of 95_test_vectors.md (R388). -/
theorem test_vector_J14 : after (vec [0xD0] { r0 with sp := 0xFFFC, f := 0x00 } [(0xFFFC, 0x34), (0xFFFD, 0x12)]) [] =
    some ({ r0 with sp := 0xFFFE, f := 0x00, pc := 0x1234 }, 20, []) := by decide

/-- J15 of 95_test_vectors.md (R388). -/
theorem test_vector_J15 : after (vec [0xD0] { r0 with sp := 0xFFFC, f := 0x10 } [(0xFFFC, 0x34), (0xFFFD, 0x12)]) [] =
    some ({ r0 with sp := 0xFFFC, f := 0x10, pc := 0x0101 }, 8, []) := by decide

/-- J17 of 95_test_vectors.md (R389). -/
theorem test_vector_J17 : after (vec [0xD9] { r0 with sp := 0xFFFC } [(0xFFFC, 0x34), (0xFFFD, 0x12)]) [] =
    some ({ r0 with sp := 0xFFFE, pc := 0x1234 }, 16, []) := by decide

/-- J18 of 95_test_vectors.md (R390). -/
theorem test_vector_J18 : after (vec [0xFF] r0 []) [0xFFFD, 0xFFFC] =
    some ({ r0 with pc := 0x0038, sp := 0xFFFC }, 16, [0x01, 0x01]) := by decide

/-- J19 of 95_test_vectors.md (R390). -/
theorem test_vector_J19 : after (vec [0xCF] r0 []) [0xFFFD, 0xFFFC] =
    some ({ r0 with pc := 0x0008, sp := 0xFFFC }, 16, [0x01, 0x01]) := by decide

/-! ### System instructions, interrupts and errors (95_test_vectors.md, 2.7; LCDC = 0x00) -/

theorem test_vector_X2 : sees (quiet [0xF3] fun s => { s with ime := true }) = some (0x0101, false, false, .running, 0x00, 4) := by decide

/-- X3, step 2: the NOP after EI, IME set after it, then the dispatch. -/
theorem test_vector_X3 : sees (quiet [0xFB, 0x00, 0x00] fun s =>
    { pcAt 0x0101 s with imePending := true, bus := { s.bus with ieReg := 0x01, ifReg := 0x01 } }) =
    some (0x0040, false, false, .running, 0x00, 24) := by decide

/-- X4, step 2: DI right after EI cancels it. -/
theorem test_vector_X4 : sees (quiet [0xFB, 0xF3, 0x00] fun s =>
    { pcAt 0x0101 s with imePending := true, bus := { s.bus with ieReg := 0x01, ifReg := 0x01 } }) =
    some (0x0102, false, false, .running, 0x01, 4) := by decide

theorem test_vector_X6 : sees (quiet [0x00] fun s => { s with ime := true, bus := { s.bus with ieReg := 0x1F, ifReg := 0x1F } }) =
    some (0x0040, false, false, .running, 0x1E, 24) := by decide

theorem test_vector_X7 : sees (quiet [0x00] fun s => { s with ime := true, bus := { s.bus with ieReg := 0x14, ifReg := 0x1E } }) =
    some (0x0050, false, false, .running, 0x1A, 24) := by decide

/-- X8, step 3: a pending source wakes the CPU with IME 0, and is not dispatched. -/
theorem test_vector_X8 : sees (quiet [0x76, 0x3C] fun s =>
    { pcAt 0x0101 s with runState := .halted, bus := { s.bus with ieReg := 0x04, ifReg := 0x04 } }) =
    some (0x0101, false, false, .running, 0x04, 4) := by decide

theorem test_vector_X9 : sees (quiet [0x76, 0x3C] fun s => { s with ime := true, bus := { s.bus with ieReg := 0x01, ifReg := 0x01 } }) =
    some (0x0040, false, false, .running, 0x00, 24) := by decide

/-- X10, step 2: with the halt bug armed, INC A runs and pc stays. -/
theorem test_vector_X10 : after (quiet [0x76, 0x3C, 0x00] fun s =>
    { pcAt 0x0101 s with haltBugArmed := true, params := { s.params with haltBug := true } }) [] =
    some ({ r0 with a := 0x02, f := 0x10, pc := 0x0101 }, 4, []) := by decide

theorem test_vector_X12 : sees (quiet [0x10, 0x00] id) = some (0x0102, false, false, .halted, 0x00, 4) := by decide

theorem test_vector_X13 : sees (quiet [0x10, 0x00] fun s => { s with params := { s.params with stopMode := .nop } }) =
    some (0x0102, false, false, .running, 0x00, 4) := by decide

/-- X14: the step raises `IllegalOpcode(0xD3, 0x0100)`, and the next step raises it again. -/
theorem test_vector_X14 :
    step (quiet [0xD3] id) = .next { quiet [0xD3] (pcAt 0x0101) with
      opcodeAddr := 0x0100, runState := .faulted (.illegalOpcode 0xD3 0x0100) } ∧
    step { quiet [0xD3] id with runState := .faulted (.illegalOpcode 0xD3 0x0100) } = .fault (.illegalOpcode 0xD3 0x0100) := ⟨rfl, rfl⟩

/-- With the halt bug armed pc stays, and the error names the opcode's own address (R39, R440). -/
theorem test_illegal_halt_bug : sees (quiet [0xD3] fun s =>
    { s with haltBugArmed := true, params := { s.params with haltBug := true } }) =
    some (0x0100, false, false, .faulted (.illegalOpcode 0xD3 0x0100), 0x00, 0) := by decide

/-- X15: no cartridge, the boot ROM `FA 00 40`. -/
theorem test_vector_X15 :
    sees (State.construct { Params.default with bootRom := some ([0xFA, 0x00, 0x40] ++ List.replicate 253 0x00) } 0) =
    some (0x0003, false, false, .faulted (.mbcNotLoaded 0x4000), 0x00, 0) := by decide

theorem test_vector_X16 :
    loadCartridge (romImage 0x8000 0x20 0x00 0x00 []) [] 0 = .error (.cartridgeTypeUnrecognized (some 0x20)) := by decide

/-- J17: IME is 1 after RETI. -/
theorem test_vector_J17_ime : sees (vec [0xD9] { r0 with sp := 0xFFFC } [(0xFFFC, 0x34), (0xFFFD, 0x12)]) =
    some (0x1234, true, false, .running, 0x00, 16) := by decide

/-! ### Timer, joypad, DMA, audio (95_test_vectors.md, 2.8 and 2.9) -/

theorem test_vector_T1 : timerOf (quiet [0x00] fun s => withTimer s { s.bus.timer with div := 0x00, divAcc := 252 }) =
    some ({ div := 0x01, divAcc := 0, tima := 0x00, tma := 0x00, tac := 0, timaAcc := 0 }, 0x00) := by decide

theorem test_vector_T2 : timerOf (quiet [0x00] fun s =>
    withTimer s { div := 0x00, divAcc := 0, tima := 0xFF, tma := 0x80, tac := 5, timaAcc := 12 }) =
    some ({ div := 0x00, divAcc := 4, tima := 0x80, tma := 0x80, tac := 5, timaAcc := 0 }, 0x04) := by decide

/-- T3: LDH (DIV),A clears DIV and its accumulator, which then takes the step's 12 cycles. -/
theorem test_vector_T3 : timerOf (quiet [0xE0, 0x04] fun s => withTimer s { s.bus.timer with div := 0x12, divAcc := 200 }) =
    some ({ div := 0x00, divAcc := 12, tima := 0x00, tma := 0x00, tac := 0, timaAcc := 0 }, 0x00) := by decide

theorem test_vector_T5 : timerOf (quiet [0x00] fun s =>
    withTimer s { div := 0x00, divAcc := 0, tima := 0x10, tma := 0x00, tac := 1, timaAcc := 10 }) =
    some ({ div := 0x00, divAcc := 4, tima := 0x10, tma := 0x00, tac := 1, timaAcc := 10 }, 0x00) := by decide

theorem test_vector_T6 : timerOf (quiet [0xE8, 0x00] fun s =>
    { s with bus := { s.bus with ifReg := 0x01, timer :=
      { div := 0x00, divAcc := 0, tima := 0xFF, tma := 0xFF, tac := 5, timaAcc := 0 } } }) =
    some ({ div := 0x00, divAcc := 16, tima := 0xFF, tma := 0xFF, tac := 5, timaAcc := 0 }, 0x05) := by decide

theorem test_vector_T7_T8 : (s0.afterWrite 0xFF07 0xFF).peek 0xFF07 = 0xFF ∧ (s0.afterWrite 0xFF07 0xFF).bus.timer.tac = 7 ∧
    (s0.afterWrite 0xFF0F 0xFF).peek 0xFF0F = 0xFF ∧ (s0.afterWrite 0xFF0F 0xFF).bus.ifReg = 0x1F := by decide

theorem test_vector_IO1_IO4 :
    [0x20, 0x10, 0x30, 0x00].map (fun v => (((s0.setButton 0 .right true).setButton 0 .a true).afterWrite 0xFF00 v).peek 0xFF00) =
    [0xEE, 0xDE, 0xFF, 0xCE] := by decide

set_option maxRecDepth 20000 in
theorem test_vector_IO6 :
    ((s0.place 0xC000 0x11).place 0xC09F 0x22 |>.afterWrite 0xFF46 0xC0).video.oam = [(0, 0x11), (159, 0x22)] := by decide

theorem test_vector_IO8 :
    (let s := s0.afterWrite 0xFF26 0x00
     (s0.peek 0xFF26, s.peek 0xFF26, s.peek 0xFF11, (s.afterWrite 0xFF11 0x80).peek 0xFF11)) = (0xF0, 0x70, 0x00, 0x00) := by decide

theorem test_vector_IO9_IO12 : s0.peek 0xFF41 = 0x86 ∧ (s0.afterWrite 0xFEA0 0x5A).peek 0xFEA0 = 0x5A ∧
    (s0.afterWrite 0xFF50 0x01).peek 0xFF50 = 0x01 := by decide

theorem test_vector_IO10 :
    (s0.afterWrite 0xC000 0x12).peek 0xE000 = 0x00 ∧ (s0.afterWrite 0xE001 0x34).peek 0xC001 = 0x00 ∧
    (mirrored.afterWrite 0xC000 0x12).peek 0xE000 = 0x12 ∧ (mirrored.afterWrite 0xE001 0x34).peek 0xC001 = 0x34 := by decide

/-! ### Cartridges (95_test_vectors.md, W2 to W5 and 2.10) -/

/-- W2: the overlay answers 0x0050 until a read of 0x0100. -/
theorem test_vector_W2 :
    booting.peek 0x0050 = 0xB0 ∧ (booting.afterRead 0x0050).bus.bootActive = true ∧
    (booting.afterRead 0x0100).peek 0x0050 = 0xC5 ∧ (booting.afterWrite 0x0050 0x00).bus.bootActive = true := by decide

/-- W3: bank 0 counts as bank 1. -/
theorem test_vector_W3 :
    (writes (inserted (romImage 0x20000 0x01 0x02 0x00 [(0x4000, 1)])) [(0x2000, 0x00)]).peek 0x4000 = 0x01 ∧
    (writes (inserted (romImage 0x20000 0x11 0x02 0x00 [(0x4000, 1)])) [(0x2000, 0x00)]).peek 0x4000 = 0x01 ∧
    (writes (inserted (romImage 0x20000 0x19 0x02 0x00 [(0x4000, 1)])) [(0x2000, 0x00), (0x3000, 0x00)]).peek 0x4000 = 0x01 := by
  decide

/-- W4: a RAM write while disabled is dropped, and a read gives 0xFF. -/
theorem test_vector_W4 :
    [0x03, 0x06, 0x13, 0x1B].map (fun t : Byte =>
      let s := (inserted (romImage 0x20000 t 0x02 0x03 [])).afterWrite 0xA000 0x42
      (s.peek 0xA000, (s.afterWrite 0x0000 0x0A).peek 0xA000)) = [(0xFF, 0x00), (0xFF, 0xF0), (0xFF, 0x00), (0xFF, 0x00)] := by
  decide

set_option maxRecDepth 20000 in
/-- W5, steps 1 to 3: 61 seconds, latched. -/
theorem test_vector_W5_seconds :
    ([0x08, 0x09, 0x0A, 0x0B, 0x0C].map fun r : Byte =>
      (writes (clocked.passSeconds 61) [(0x6000, 0x00), (0x6000, 0x01), (0x4000, r)]).peek 0xA000) =
    [0x01, 0x01, 0x00, 0x00, 0x00] := by decide

set_option maxRecDepth 20000 in
/-- W5, steps 4 and 5, and the companion case: the carry on the wrap past day 511 alone; nothing counts while halted. -/
theorem test_vector_W5_carry :
    rtcTick { s := 59, m := 59, h := 23, dl := 0xFF, dayHigh := true, halt := false, carry := false } =
      { s := 0, m := 0, h := 0, dl := 0x00, dayHigh := false, halt := false, carry := true } ∧
    rtcTick { s := 59, m := 59, h := 23, dl := 0xFE, dayHigh := true, halt := false, carry := false } =
      { s := 0, m := 0, h := 0, dl := 0xFF, dayHigh := true, halt := false, carry := false } ∧
    rtcTicks 100 { s := 0, m := 0, h := 0, dl := 0x00, dayHigh := false, halt := true, carry := false } =
      { s := 0, m := 0, h := 0, dl := 0x00, dayHigh := false, halt := true, carry := false } := by decide

theorem test_vector_M1_M3 :
    (writes mbc1Big [(0x2000, 0x05), (0x4000, 0x02)]).peek 0x4000 = 0x45 ∧
    (writes mbc1Big [(0x2000, 0x05), (0x4000, 0x02)]).peek 0x0000 = 0x00 ∧
    (writes mbc1Big [(0x2000, 0x05), (0x4000, 0x02), (0x6000, 0x01)]).peek 0x0000 = 0x40 ∧
    (writes mbc1Big [(0x4000, 0x02), (0x2000, 0x20)]).peek 0x4000 = 0x41 := by decide

theorem test_vector_M5_M6 :
    (let s := writes mbc5Big [(0x2000, 0x2C), (0x3000, 0x01)]
     (s.peek 0x4000, s.peek 0x4001)) = (0x2C, 0x01) ∧
    (writes mbc5Big [(0x2000, 0x00), (0x3000, 0x00)]).peek 0x4000 = 0x01 := by decide

theorem test_vector_M7_M10 :
    (writes mbc2Cart [(0x2100, 0x03)]).peek 0x4000 = 0x03 ∧
    (let s := writes mbc2Cart [(0x0000, 0x0A), (0xA000, 0x5C)]
     (s.peek 0xA000, s.peek 0xA200)) = (0xFC, 0xFC) := by decide

theorem test_vector_M11_M12 :
    (let s := writes (inserted (romImage 0x20000 0x03 0x02 0x03 []))
       [(0x0000, 0x0A), (0xA000, 0x11), (0x4000, 0x01), (0xA000, 0x22)]
     (s.peek 0xA000, (s.afterWrite 0x6000 0x01).peek 0xA000)) = (0x22, 0x00) := by decide

theorem test_vector_M13_M15 :
    (s0.afterWrite 0x4000 0x99).peek 0x4000 = 0x99 ∧ s0.peek 0xA000 = 0xFF ∧ (s0.afterWrite 0xA000 0x77).peek 0xA000 = 0x77 ∧
    (s0.afterWrite 0x2000 0x55).peek 0x2000 = 0x00 := by decide

/-! ### Video (95_test_vectors.md, W7, W9 to W11 and 2.11) -/

/-- V2 and V3: the entries to lines 144 and 0. -/
theorem test_vector_V2_V3 :
    (let t := videoTick (lineAt 143 455 .hblank)
     (t.video.ly, t.video.mode, t.bus.ifReg)) = (144, .vblank, 0x01) ∧
    (let t := videoTick (lineAt 153 455 .vblank)
     (t.video.ly, t.video.mode, t.video.lineCycle)) = (0, .oamScan, 0) := by decide

/-- V4 and V5: the LYC and the HBlank source. -/
theorem test_vector_V4_V5 :
    (let s := lineAt 1 455 .hblank
     let t := videoTick (s.withVideo { s.video with lyc := 2, statSel := 0b1000 })
     (t.video.ly, t.video.coinc, t.bus.ifReg, t.peek 0xFF41)) = (2, true, 0x02, 0xC6) ∧
    (let s := lineAt 0 251 .draw
     let t := videoTick (s.withVideo { s.video with statSel := 0b0001 })
     (t.video.mode, t.bus.ifReg)) = (.hblank, 0x02) := by decide

/-- V6 and V7: the LCD off, then on. -/
theorem test_vector_V6_V7 :
    (let s := lineAt 2 88 .draw
     let t := videoAdvance 4 (s.withVideo { s.video with lcdc := 0x11, coinc := false })
     let u := videoAdvance 4 (t.withVideo { t.video with lcdc := 0x91 })
     (t.video.ly, t.video.mode, t.video.lineCycle, t.peek 0xFF41, u.video.ly, u.video.mode, u.video.lineCycle)) =
    (0, .hblank, 0, 0x80, 0, .oamScan, 4) := by decide

set_option maxRecDepth 20000 in
/-- W9: where HBlank starts. -/
theorem test_vector_W9 :
    (let v := { s0.video with lineCycle := 80 }
     ((enterDraw 6 v).drawEnd, (enterDraw 6 { v with scx := 3 }).drawEnd, (enterDraw 6 { v with lcdc := 0xB1, wx := 7 }).drawEnd,
       (enterDraw 6 { v with lcdc := 0xB1, wx := 167 }).drawEnd)) = (252, 255, 258, 252) := by decide

/-- W7: the lower X wins, then the lower entry; a sprite behind a background color other than 0. -/
theorem test_vector_W7 :
    [9, 10, 17, 18].map (pixel (scene [(16, 18, 1, 0x00), (16, 18, 2, 0x00)] 0)) = [0, 1, 1, 0] ∧
    [10, 12].map (pixel (scene [(16, 20, 1, 0x00), (16, 18, 2, 0x00)] 0)) = [2, 2] ∧
    pixel (scene [(16, 8, 2, 0x80)] 1) 0 = 1 ∧ pixel (scene [(16, 8, 2, 0x80)] 0) 0 = 2 := by decide

/-- W10 and V9: a sprite at X 0 is left out, one at X 1 kept; at most 10 on a line. -/
theorem test_vector_W10_V9 :
    (scene [(16, 0, 1, 0x00), (16, 1, 1, 0x00)] 0).spriteBuf.map Sprite.index = [1] ∧
    (scene ((List.range 12).map fun i => (16, 8 + 8 * BitVec.ofNat 8 i, 1, 0x00)) 0).spriteBuf.map Sprite.index =
      [0, 1, 2, 3, 4, 5, 6, 7, 8, 9] := by decide

/-- W11: with LCDC bit 4 clear, tile 0x80 is at 0x8800 and tile 0 at 0x9000. -/
theorem test_vector_W11 :
    [0, 1, 8].map (pixel { s0.video with lcdc := 0x81, bgp := 0xE4, vram := [(0x0800, 0x80), (0x1800, 0x80)] }) = [1, 0, 0] := by
  decide

/-! ### States and operands that meet the statements' hypotheses

Each theorem names the statements of Certificates/Slice0/Obligations.lean whose hypotheses it meets, clause by clause, at the ends of
their ranges. -/

/-- Reset's state, no cartridge loaded, with HL, SP and pc set. -/
def bare (hl sp pc : Word) : State :=
  { State.reset with regs := { State.reset.regs with h := hiByte hl, l := loByte hl, sp := sp, pc := pc } }

theorem s0_memWf : MemWf s0 := by
  obtain ⟨h1, h2, h3, h4, h5, h6, _⟩ := State.construct_memWf Params.default 0
  refine ⟨h1, h2, h3, h4, h5, h6, fun c hc => ?_⟩
  have : c = blankCartridge := by simpa [s0, eq_comm] using hc
  subst this
  exact ⟨Memory.wf_nil, cellsWf_nil⟩

theorem bare_memWf (hl sp pc : Word) : MemWf (bare hl sp pc) := State.construct_memWf Params.default 0

theorem s0_inv : Inv s0 :=
  ⟨by decide, by decide, by decide, by decide, s0_memWf, by decide, by decide, by decide, by decide, by decide, by decide, by decide,
    by decide, by decide, by simp [ModeFollows, s0, State.reset, State.construct, videoAtReset, Params.default]⟩

theorem test_witness_DecodeAndEncodeAgree : (Instr.jp_nn 0xFFFF).wellFormed = true ∧ (Instr.bit7_atHL).wellFormed = true := by decide

theorem test_witness_IllegalOpcodesFault :
    (Instr.illegalD3, (0xD3 : Byte)) ∈ Instr.illegals ∧ (Instr.illegalFD, (0xFD : Byte)) ∈ Instr.illegals ∧
    (∀ s ∈ [quiet [0xD3] id, { quiet [0xD3] id with haltBugArmed := true }],
      s.runState = .running ∧ CanRead s s.regs.pc ∧ s.peek s.regs.pc = 0xD3) := by decide

theorem test_witness_StepRunsDecodedInstruction :
    (vec [0xCD, 0x34, 0x12] r0 []).runState = .running ∧
    decode (vec [0xCD, 0x34, 0x12] r0 []).nextBytes = .ok (.call_nn 0x1234, []) ∧
    (∀ k < 3 - ([] : List Byte).length, CanRead (vec [0xCD, 0x34, 0x12] r0 []) ((vec [0xCD, 0x34, 0x12] r0 []).fetchAddr k)) ∧
    decode (vec [0x76] r0 []).nextBytes = .ok (.halt, [0x00, 0x00]) ∧
    ¬ CanRead State.reset State.reset.regs.pc := by decide

/-- StepRunsDecodedInstruction, its clause on a second and a third byte at 0xA000 with no cartridge. -/
theorem test_witness_OperandFetchMisses :
    ∀ p ∈ ([(0x9FFF, 0x3E, 1), (0x9FFE, 0xC3, 2)] : List (Word × Byte × Nat)),
      let s := ({ State.reset with regs := { r0 with pc := p.1 } } : State).place p.1 p.2.1
      s.runState = .running ∧ 1 ≤ p.2.2 ∧ p.2.2 < instrLength (s.peek s.regs.pc) ∧
      (∀ j < p.2.2, CanRead s (s.fetchAddr j)) ∧ ¬ CanRead s (s.fetchAddr p.2.2) := by decide

theorem test_witness_StepPhasesInOrder :
    ({ s0 with runState := .halted } : State).runState = .halted ∧ Safe { s0 with runState := .halted } ∧ Safe s0 ∧
    ({ s0 with runState := .faulted (.mbcNotLoaded 0x4000) } : State).runState = .faulted (.mbcNotLoaded 0x4000) :=
  ⟨rfl, trivial, trivial, rfl⟩

theorem test_witness_EiDelaysByOneInstruction :
    ({ s0 with imePending := true } : State).imePending = true ∧ s0.imePending = false ∧
    (vec [0xFB] r0 []).runState = .running ∧ CanRead (vec [0xFB] r0 []) (vec [0xFB] r0 []).regs.pc ∧
    (vec [0xFB] r0 []).peek (vec [0xFB] r0 []).regs.pc = 0xFB := by decide

theorem test_witness_InterruptPhaseWakesAndDispatches :
    let s := fun (ie : Byte) (f : BitVec 5) (ime : Bool) (t : State) => ({ t with ime := ime, bus := { t.bus with ieReg := ie, ifReg := f } } : State)
    s0.pendingIrqs = 0 ∧ ((s 0x10 0x10 false s0).pendingIrqs ≠ 0 ∧ (s 0x10 0x10 false s0).ime = false) ∧
    ((s 0x10 0x10 true s0).firstIrq = some .joypad ∧ (s 0x10 0x10 true s0).ime = true ∧
      ∃ t, dispatch .joypad (s 0x10 0x10 true s0).wake = .ok () t) ∧
    ((s 0x1F 0x1F true (bare 0 0x0001 0x0100)).firstIrq = some .vblank ∧
      ∃ e t, dispatch .vblank (s 0x1F 0x1F true (bare 0 0x0001 0x0100)).wake = .error e t) :=
  ⟨rfl, ⟨by decide, rfl⟩, ⟨by decide, rfl, _, rfl⟩, by decide, _, _, rfl⟩

/-- DispatchTakesTheInterrupt, its clause on the whole interrupt phase. -/
theorem test_witness_InterruptPhaseDispatches :
    let s : State := { s0 with ime := true, bus := { s0.bus with ieReg := 0x10, ifReg := 0x10 } }
    s.ime = true ∧ s.firstIrq = some .joypad ∧ CanPush s s.regs.pc := by decide

theorem test_witness_Push_AF : s0.regs.f &&& 0x0F = 0 := by decide

theorem canWrite_plain {s : State} {a : Word} {v : Byte} (hr : route s.params a ≠ .cart) (ha : a ≠ 0xFF46) : CanWrite s a v :=
  Or.inr ⟨hr, fun h => absurd h ha⟩

theorem canWrite_dma {s : State} {v : Byte} (h : CanRead s (dmaSource v 0)) : CanWrite s 0xFF46 v := by
  refine Or.inr ⟨?_, fun _ i hi => CanRead.of_page_start (by omega) h⟩
  have : route s.params 0xFF46 = .io .dma := route_dma.2 rfl
  rw [this]
  simp

theorem not_canWrite_cart {s : State} {a : Word} {v : Byte} (hc : s.cart = none) (hr : route s.params a = .cart) :
    ¬ CanWrite s a v := by
  rintro (h | h)
  · simp [CartLoaded, hc] at h
  · exact h.1 hr

theorem not_canWrite_dma {s : State} {v : Byte} (h : ¬ CanRead s (dmaSource v 0)) : ¬ CanWrite s 0xFF46 v := by
  rintro (hc | ⟨_, hd⟩)
  · exact h (Or.inl hc)
  · exact h (hd rfl 0 (by decide))

/-- DispatchTakesTheInterrupt, CallsAndRestarts, Push. -/
theorem test_witness_pushes :
    (∀ v : Word, CanPush (bare 0 0x8002 0x0100) v) ∧ CanPush s0 s0.regs.pc ∧ (∀ v : Word, ¬ CanPush (bare 0 0x8001 0x0100) v) ∧
    (∀ v : Word, ¬ CanPush (bare 0 0x8000 0x0100) v) ∧ ¬ CanPush (bare 0 0xFF47 0x0100) 0x7F00 ∧
    condHolds .nz (flagsOfByte 0x70) = true ∧ condHolds .nz (flagsOfByte 0x80) = false :=
  ⟨fun _ => ⟨canWrite_plain (by decide) (by decide), canWrite_plain (by decide) (by decide)⟩, ⟨Or.inl rfl, Or.inl rfl⟩,
    fun _ h => not_canWrite_cart rfl (by decide) h.2, fun _ h => not_canWrite_cart rfl (by decide) h.1,
    fun h => not_canWrite_dma (by decide) h.1, rfl, rfl⟩

theorem test_witness_OnlyRetiAndEiEnable :
    (∃ t, exec .reti s0 = .next t ∧ t.ime = true) ∧ (∃ t, exec .ei s0 = .next t ∧ t.imePending = true) :=
  ⟨⟨_, rfl, rfl⟩, _, rfl, rfl⟩

/-- LoadFromMemory, AddAndAdc, SubSbcAndCp, LogicOperations, BitResAndSet. -/
theorem test_witness_reads :
    CanRead s0 s0.hl ∧ CanRead (bare 0x8000 0 0) (bare 0x8000 0 0).hl ∧ CanRead (bare 0x9FFF 0 0) (bare 0x9FFF 0 0).hl ∧
    CanRead (bare 0xC000 0 0) ((bare 0xC000 0 0).memPairAddr .hlDec) ∧ CanRead (bare 0 0 0) 0xFFFF ∧
    ¬ CanRead (bare 0x7FFF 0 0) (bare 0x7FFF 0 0).hl ∧ ¬ CanRead (bare 0xA000 0 0) (bare 0xA000 0 0).hl ∧
    ¬ CanRead (bare 0 0 0) ((bare 0 0 0).memPairAddr .bc) ∧ ¬ CanRead (bare 0 0 0) 0xBFFF :=
  ⟨by decide, by decide, by decide, by decide, by decide, by decide, by decide, by decide, by decide⟩

/-- StoreToMemory, LoadWords. -/
theorem test_witness_writes (v : Byte) :
    CanWrite s0 s0.hl v ∧ CanWrite (bare 0x8000 0 0) (bare 0x8000 0 0).hl v ∧
    ¬ CanWrite (bare 0x7FFF 0 0) (bare 0x7FFF 0 0).hl v ∧ ¬ CanWrite (bare 0xA000 0 0) ((bare 0xA000 0 0).memPairAddr .hlInc) v ∧
    (CanWrite (bare 0 0 0) (highPage 0x46) 0x80 ∧ CanWrite (bare 0 0 0) (highPage 0x46) 0xFF) ∧
    (¬ CanWrite (bare 0 0 0) (highPage 0x46) 0x7F ∧ ¬ CanWrite (bare 0 0 0) (highPage 0x46) 0xA0) ∧
    (CanWrite (bare 0 0 0) 0x9FFF (loByte 0) ∧ ¬ CanWrite ((bare 0 0 0).afterWrite 0x9FFF (loByte 0)) (0x9FFF + 1) (hiByte 0)) ∧
    (CanWrite (bare 0 0 0) 0x8000 (loByte 0) ∧ CanWrite ((bare 0 0 0).afterWrite 0x8000 (loByte 0)) (0x8000 + 1) (hiByte 0)) ∧
    ¬ CanWrite (bare 0 0 0) 0x7FFF (loByte 0) :=
  ⟨Or.inl rfl, canWrite_plain (by decide) (by decide), not_canWrite_cart rfl (by decide), not_canWrite_cart rfl (by decide),
    ⟨canWrite_dma (by decide), canWrite_dma (by decide)⟩, ⟨not_canWrite_dma (by decide), not_canWrite_dma (by decide)⟩,
    ⟨canWrite_plain (by decide) (by decide), not_canWrite_cart rfl (by decide)⟩,
    ⟨canWrite_plain (by decide) (by decide), canWrite_plain (by decide) (by decide)⟩, not_canWrite_cart rfl (by decide)⟩

/-- Pop, Returns. -/
theorem test_witness_pops :
    CanPop s0 ∧ CanPop (bare 0 0x8000 0) ∧ ¬ CanPop (bare 0 0x7FFF 0) ∧ ¬ CanPop (bare 0 0x9FFF 0) ∧
    condHolds .c (flagsOfByte 0x10) = true ∧ condHolds .c (flagsOfByte 0xE0) = false := by decide

/-- IncAndDec, ExtendedRotates, BitResAndSet. -/
theorem test_witness_modifies (w : Byte) :
    CanModify s0 w ∧ CanModify (bare 0x8000 0 0) w ∧ ¬ CanModify (bare 0x7FFF 0 0) w ∧
    (CanRead (bare 0xFF46 0 0) (bare 0xFF46 0 0).hl ∧ ¬ CanModify (bare 0xFF46 0 0) 0x00) :=
  ⟨⟨Or.inl rfl, Or.inl rfl⟩, ⟨by decide, canWrite_plain (by decide) (by decide)⟩, fun h => not_canWrite_cart rfl (by decide) h.2,
    by decide, fun h => not_canWrite_dma (by decide) h.2⟩

theorem test_witness_DaaGivesDecimalResults :
    (99 < 100 ∧ 0 < 100) ∧ ({ r0 with a := 0x99, b := 0x00 } : Regs).a = BitVec.ofNat 8 (99 / 10 * 16 + 99 % 10) ∧
    (∃ t, exec (.alu .adc (.reg .b)) { s0 with regs := { r0 with a := 0x99, b := 0x00 } } = .next t) ∧
    ∃ t, exec (.alu .sbc (.reg .b)) { s0 with regs := { r0 with a := 0x99, b := 0x00 } } = .next t :=
  ⟨by decide, by decide, ⟨_, rfl⟩, _, rfl⟩

theorem test_witness_JumpsSetPcAlone : ∀ cc ∈ [Cond.nz, .z, .nc, .c],
    ∃ f g : Byte, condHolds cc (flagsOfByte f) = true ∧ condHolds cc (flagsOfByte g) = false := by
  intro cc _
  cases cc
  · exact ⟨0x70, 0x80, rfl, rfl⟩
  · exact ⟨0x80, 0x70, rfl, rfl⟩
  · exact ⟨0xE0, 0x10, rfl, rfl⟩
  · exact ⟨0x10, 0xE0, rfl, rfl⟩

theorem test_witness_NopHaltAndStop :
    let p := { s0 with params := { s0.params with haltBug := true }, bus := { s0.bus with ieReg := 0x10, ifReg := 0x10 } }
    (p.params.haltBug = true ∧ p.ime = false ∧ p.pendingIrqs ≠ 0) ∧
    ¬ (s0.params.haltBug = true ∧ s0.ime = false ∧ s0.pendingIrqs ≠ 0) ∧ s0.params.stopMode = .halt ∧
    ({ s0.params with stopMode := .nop } : Params).stopMode = .nop := by decide

theorem test_witness_PrefixRunsTheExtendedInstruction :
    CanRead s0 s0.regs.pc ∧ Safe s0 ∧ CartLoaded s0 ∧ ¬ CanRead State.reset State.reset.regs.pc :=
  ⟨by decide, trivial, by decide, by decide⟩

/-- AddressMap, WriteThenRead: an address of each route, at the ends of each range. -/
theorem test_witness_routes :
    ([0x0000, 0x7FFF, 0xA000, 0xBFFF].all fun a => route Params.default a == .cart) = true ∧
    [0x8000, 0x9FFF].map (route Params.default) = [.vram 0, .vram 0x1FFF] ∧
    [0xC000, 0xDFFF, 0xE000, 0xFDFF].map (route Params.default) = [.flat 0xC000, .flat 0xDFFF, .flat 0xE000, .flat 0xFDFF] ∧
    [0xE000, 0xFDFF].map (route { Params.default with echoMirror := true }) = [.flat 0xC000, .flat 0xDDFF] ∧
    [0xFE00, 0xFE9F, 0xFEA0, 0xFEFF].map (route Params.default) = [.oam 0, .oam 159, .flat 0xFEA0, .flat 0xFEFF] ∧
    [0xFF03, 0xFF08, 0xFF0E, 0xFF27, 0xFF2F, 0xFF4C, 0xFF7F].map (route Params.default) =
      [.flat 0xFF03, .flat 0xFF08, .flat 0xFF0E, .flat 0xFF27, .flat 0xFF2F, .flat 0xFF4C, .flat 0xFF7F] ∧
    [0xFF00, 0xFF04, 0xFF07, 0xFF0F, 0xFF10, 0xFF25, 0xFF26, 0xFF30, 0xFF3F].map (route Params.default) =
      [.io .joyp, .io .div, .io .tac, .io .ifReg, .io (.audio 0xFF10), .io (.audio 0xFF25), .io .nr52, .io (.wave 0xFF30),
        .io (.wave 0xFF3F)] ∧
    [0xFF01, 0xFF02, 0xFF05, 0xFF06, 0xFF40, 0xFF41, 0xFF44, 0xFF46, 0xFF4B].map (route Params.default) =
      [.io .sb, .io .sc, .io .tima, .io .tma, .io .lcdc, .io .stat, .io .ly, .io .dma, .io .wx] ∧
    [0xFF80, 0xFFFE, 0xFFFF].map (route Params.default) = [.flat 0xFF80, .flat 0xFFFE, .ie] := by decide

theorem test_witness_WriteThenRead : MemWf s0 ∧ s0.cart = some blankCartridge ∧ blankCartridge.mbc = .noMbc [] :=
  ⟨s0_memWf, rfl, rfl⟩

/-- Neighbours a write does not touch, and bytes it does. -/
theorem test_witness_StoresTouchOnlyTheirBytes :
    ¬ Touches s0 0xC000 0x12 0xC001 ∧ Touches s0 0xC000 0x12 0xC000 ∧ Touches mirrored 0xC000 0x12 0xE000 ∧
    ¬ Touches s0 0x4000 0x12 0x4001 ∧ ¬ Touches mbc1Big 0xA000 0x12 0x7FFF ∧ ¬ Touches s0 0xFF46 0xC0 0x00FF ∧
    ¬ Touches s0 0xFF26 0x00 0xFF30 ∧ (s0.hl ≠ 0x0100 ∨ (0x0100 : Word) ≤ 0xC000 ∨ s0.bus.bootActive = false) ∧
    ((0x0100 : Word) ≠ 0x0100 ∨ (0x0100 : Word) ≤ 0x0100 ∨ booting.bus.bootActive = false) ∧
    ¬ Touches s0 (s0.regs.sp - 1) 0x01 0xFFFC ∧ ¬ Touches s0 (s0.regs.sp - 2) 0x00 0xFFFD := by
  refine ⟨?_, ?_, ?_, ?_, ?_, ?_, ?_, by decide, by decide, ?_, ?_⟩
  · show ¬ route Params.default 0xC001 = .flat 0xC000
    decide
  · show route Params.default 0xC000 = .flat 0xC000
    decide
  · show route mirrored.params 0xE000 = .flat 0xC000
    decide
  · show ¬ ((0x4001 : Word) = 0x4000 ∨ (route Params.default 0x4001 = .cart ∧ ((0xA000 : Word) ≤ 0x4000 → (0xA000 : Word) ≤ 0x4001) ∧ False))
    decide
  · show ¬ ((0x7FFF : Word) = 0xA000 ∨ (route Params.default 0x7FFF = .cart ∧ ((0xA000 : Word) ≤ 0xA000 → (0xA000 : Word) ≤ 0x7FFF) ∧ True))
    decide
  · show ¬ ((0x00FF : Word) = 0xFF46 ∨ ((0xFE00 : Word) ≤ 0x00FF ∧ (0x00FF : Word) ≤ 0xFE9F) ∨ ((0xC0 : Byte) = 0x01 ∧ (0x00FF : Word) ≤ 0x00FF))
    decide
  · show ¬ ((0xFF30 : Word) = 0xFF26 ∨ ((0xFF10 : Word) ≤ 0xFF30 ∧ (0xFF30 : Word) ≤ 0xFF25))
    decide
  · show ¬ route Params.default 0xFFFC = .flat 0xFFFD
    decide
  · show ¬ route Params.default 0xFFFD = .flat 0xFFFC
    decide

theorem test_witness_NonStoringInstructionsKeepMemory :
    (s0.bus.bootActive = false ∨ (0x0100 : Word) ≤ 0x0000) ∧ (booting.bus.bootActive = false ∨ (0x0100 : Word) ≤ 0x0100) ∧
    (∃ t, exec .nop s0 = .next t) ∧ (∃ t, exec .nop booting = .next t) ∧ ∃ t, exec .popAF s0 = .next t :=
  ⟨by decide, by decide, ⟨_, rfl⟩, ⟨_, rfl⟩, _, rfl⟩

theorem test_witness_OverlayShadowsUntilRetired :
    booting.bus.bootActive = true ∧ (0x00FF : Word) ≤ 0x00FF ∧ booting.params.bootRom = some bootImage ∧ bootImage.length = 256 ∧
    State.reset.cart = none ∧ s0.bus.bootActive = false ∧ ∃ t, step s0 = .next t := by
  refine ⟨by decide, by decide, rfl, by simp [bootImage], by decide, by decide, _, rfl⟩

theorem test_witness_NoCartridgeRaises :
    (State.reset.cart = none ∧ route State.reset.params 0x7FFF = .cart ∧ overlaid State.reset 0x7FFF = false) ∧
    (∃ e t, memRead State.reset 0x7FFF = .error e t) ∧ CanRead State.reset 0x8000 ∧ (0xBFFF : Word) ≠ 0xFF46 ∧
    (∃ e t, memWrite State.reset 0xBFFF 0x00 = .error e t) ∧ CanWrite State.reset 0xFF46 0x80 :=
  ⟨by decide, ⟨_, _, rfl⟩, by decide, by decide, ⟨_, _, rfl⟩, canWrite_dma (by decide)⟩

theorem test_witness_StepKeepsParametersAndCartridge : (∃ t, step s0 = .next t) ∧ CartLoaded s0 := ⟨⟨_, rfl⟩, by decide⟩

theorem test_witness_DevicesMoveOnlyBetweenInstructions : ∃ t, exec .popHL s0 = .next t := ⟨_, rfl⟩

theorem test_witness_DmaCopiesThePage :
    (MemWf s0 ∧ CanWrite s0 0xFF46 0x00) ∧ MemWf (bare 0 0 0) ∧ CanWrite (bare 0 0 0) 0xFF46 0x80 :=
  ⟨⟨s0_memWf, Or.inl rfl⟩, bare_memWf 0 0 0, canWrite_dma (by decide)⟩

/-- NoMbcAndMbc2, Mbc1Banks: a cartridge of each, and addresses at the ends of each clause's range. -/
theorem test_witness_Mbc1_Mbc2_NoMbc :
    (blankCartridge.mbc = .noMbc [] ∧ CartWf blankCartridge) ∧
    mbc2Cart.cart.map Cartridge.mbc = some (.mbc2 { ramEnabled := false, bank4 := 1 }) ∧
    mbc1Big.cart.map Cartridge.mbc = some (.mbc1 { ramEnabled := false, lo5 := 1, hi2 := 0, mode := false }) ∧
    ([0x0000, 0x3EFF] : List Word).all (fun a => decide (a.toNat < 0x4000 ∧ a.toNat / 256 % 2 = 0)) = true ∧
    ([0x0100, 0x3FFF] : List Word).all (fun a => decide (a.toNat < 0x4000 ∧ a.toNat / 256 % 2 = 1)) = true ∧ (0x1FFF : Word).toNat < 0x2000 ∧
    ([0x2000, 0x3FFF] : List Word).all (fun a => decide (0x2000 ≤ a.toNat ∧ a.toNat < 0x4000)) = true ∧
    ([0x4000, 0x5FFF] : List Word).all (fun a => decide (0x4000 ≤ a.toNat ∧ a.toNat < 0x6000)) = true ∧
    ([0x6000, 0x7FFF] : List Word).all (fun a => decide (0x6000 ≤ a.toNat ∧ a.toNat < 0x8000)) = true ∧
    ([0xA000, 0xBFFF] : List Word).all (fun a => decide (0xA000 ≤ a.toNat ∧ a.toNat < 0xC000)) = true :=
  ⟨⟨rfl, Memory.wf_nil, cellsWf_nil⟩, by decide, by decide, by decide, by decide, by decide, by decide, by decide, by decide, by decide⟩

/-- Mbc3BanksAndLatch, Mbc5Banks. -/
theorem test_witness_Mbc3_Mbc5 :
    (clocked.cart.map Cartridge.mbc).isSome = true ∧
    ([0x08, 0x0C] : List Byte).all (fun x => decide (0x08 ≤ x.toNat ∧ x.toNat ≤ 0x0C)) = true ∧
    ([0x07, 0x0D] : List Byte).all (fun x => decide (¬ (0x08 ≤ x.toNat ∧ x.toNat ≤ 0x0C))) = true ∧
    mbc5Big.cart.map Cartridge.mbc = some (.mbc5 { ramEnabled := false, bank9 := 1, rbank := 0, rumble := false }) ∧
    ((romImage 0x8000 0x1E 0x00 0x00 []).byte 0x147).toNat = 0x1E ∧
    ¬ (((romImage 0x8000 0x19 0x00 0x00 []).byte 0x147).toNat = 0x1C ∨ ((romImage 0x8000 0x19 0x00 0x00 []).byte 0x147).toNat = 0x1D ∨
      ((romImage 0x8000 0x19 0x00 0x00 []).byte 0x147).toNat = 0x1E) := by decide

theorem test_witness_RamEnableGates :
    ((0xA000 : Word) ≤ 0xA000 ∧ (0xA000 : Word) ≤ 0xBFFF) ∧
    (let c : Cartridge := { rom := romImage 0x8000 0x03 0x00 0x03 [], ram := [],
                            mbc := .mbc1 { ramEnabled := false, lo5 := 1, hi2 := 0, mode := false } }
     CartWf c ∧ 0 < c.ramSize ∧ c.ramIndex 3 0x1FFF < c.ramSize) ∧
    (let c : Cartridge := { rom := romImage 0x8000 0x01 0x00 0x00 [], ram := [],
                            mbc := .mbc1 { ramEnabled := false, lo5 := 1, hi2 := 0, mode := false } }
     c.ramSize = 0) ∧
    (let c : Cartridge := { rom := romImage 0x8000 0x03 0x00 0x01 [], ram := [],
                            mbc := .mbc1 { ramEnabled := false, lo5 := 1, hi2 := 0, mode := false } }
     c.ramSize ≤ c.ramIndex 0 0x0800) :=
  ⟨by decide, ⟨⟨Memory.wf_nil, by decide⟩, by decide, by decide⟩, by decide, by decide⟩

theorem test_witness_RtcCountsSeconds :
    let r : Rtc := { s := 59, m := 59, h := 23, dl := 0xFF, dayHigh := true, halt := false, carry := false }
    (r.halt = false ∧ r.s.toNat < 60 ∧ r.m.toNat < 60 ∧ r.h.toNat < 24) ∧ ({ r with halt := true } : Rtc).halt = true ∧
    (let x := ({ r with s := 63 } : Rtc); x.halt = false ∧ x.s ≠ 59) ∧
    (let x := ({ r with m := 63 } : Rtc); x.halt = false ∧ x.s = 59 ∧ x.m ≠ 59) ∧
    (let x := ({ r with h := 31 } : Rtc); x.halt = false ∧ x.s = 59 ∧ x.m = 59 ∧ x.h ≠ 23) ∧ (0 ≤ 61 ∧ 61 ≤ 62) := by decide

theorem test_witness_TimerCountsCycles :
    let s := fun (d t : Nat) (tac : BitVec 3) =>
      withTimer s0 { div := 0xFF, divAcc := d, tima := 0xFF, tma := 0x80, tac := tac, timaAcc := t }
    (∀ p ∈ ([(1023, 4), (15, 5), (63, 6), (255, 7), (1023, 1)] : List (Nat × BitVec 3)),
      (s 255 p.1 p.2).bus.timer.divAcc < 256 ∧ ((s 255 p.1 p.2).bus.timer.tac.getLsbD 2 = true →
        (s 255 p.1 p.2).bus.timer.timaAcc < timaPeriod (s 255 p.1 p.2).bus.timer.tac)) ∧
    (s 0 16 5).bus.timer.tac.getLsbD 2 = true ∧ timaPeriod (s 0 16 5).bus.timer.tac ≤ (s 0 16 5).bus.timer.timaAcc := by decide

theorem test_witness_ButtonsReachJoyp :
    buttonOf s0.bus.joypad.slot0 .start = false ∧ s0.params.joypadIrqSelected = false ∧
    buttonOf (s0.setButton 0 .start true).bus.joypad.slot0 .start = true ∧ s0.bus.joypad.sel.getLsbD 1 = false ∧
    (let s := (({ s0 with params := { s0.params with joypadIrqSelected := true } } : State).afterWrite 0xFF00 0x20)
     s.params.joypadIrqSelected = true ∧ ¬ s.bus.joypad.sel.getLsbD 1 = false ∧ s.bus.joypad.sel.getLsbD 0 = false) := by decide

theorem test_witness_FrameIs70224Cycles :
    (let s := lineAt 153 455 .vblank
     s.video.lcdc.getLsbD 7 = true ∧ s.video.lcdActive = true ∧ s.video.ly ≤ 153 ∧ s.video.lineCycle ≤ 455) ∧
    (s0.withVideo { s0.video with lcdc := 0x7F }).video.lcdc.getLsbD 7 = false ∧
    (let s := s0.withVideo { s0.video with lcdActive := false }
     s.video.lcdc.getLsbD 7 = true ∧ s.video.lcdActive = false) := by decide

theorem test_witness_ModeFollowsTheLineCycle :
    (let s := lineAt 143 0 .oamScan
     s.video.ly < 144 ∧ s.video.lineCycle = 0 ∧ s.video.mode = .oamScan ∧ s.params.windowPenalty ≤ 196) ∧
    [0, 79, 80, 251, 252, 455].all (fun c => decide (c ≤ 455)) = true ∧
    (let s := lineAt 153 454 .vblank; 144 ≤ s.video.ly ∧ s.video.lineCycle + 1 ≤ 455) := by decide

theorem test_witness_LineEndInterrupts : ∀ ly ∈ [0, 143, 144, 153],
    (lineAt ly 455 .hblank).video.lineCycle = 455 ∧ (lineAt ly 455 .hblank).video.ly ≤ 153 := by decide

theorem test_witness_ViewportChangesAtVblankAlone :
    159 < 160 ∧ ((lineAt 143 455 .hblank).video.lineCycle = 455 ∧ (lineAt 143 455 .hblank).video.ly = 143) ∧
    (let v := (lineAt 143 79 .oamScan).video
     v.lines = [] ∧ v.ly < 144 ∧ v.mode = .oamScan ∧ v.lineCycle = 79) ∧ Frame.wf [] :=
  ⟨by decide, by decide, by decide, Frame.wf_nil⟩

theorem test_witness_SpriteSelectionAndPriority :
    (spritePixel (scene [(16, 20, 1, 0x00), (16, 18, 2, 0x00)] 0) 12).map (fun p => (p.1.index, p.2)) = some (1, 2) := by decide

theorem test_witness_PixelComposition :
    spritePixel (scene [(16, 18, 1, 0x00)] 0) 9 = none ∧
    (spritePixel (scene [(16, 8, 2, 0x80)] 1) 0).map (fun p => (p.1.attr.getLsbD 7, p.2)) = some (true, 2) ∧
    bgIndex (scene [(16, 8, 2, 0x80)] 1) 0 ≠ 0 ∧
    (spritePixel (scene [(16, 8, 2, 0x00)] 1) 0).map (fun p => (p.1.attr.getLsbD 7, p.2)) = some (false, 2) ∧
    s0.video.lcdc.getLsbD 1 = false ∧
    (let v := scene [(16, 18, 1, 0x60)] 0
     let s := oamSprite v 0
     (v.ly : Int) = s.yPos + (0 : Nat) ∧ ((17 : Nat) : Int) = s.xPos + (7 : Nat) ∧ v.wx.toNat ≤ 17 + 7) := by decide

theorem test_witness_ResetValues :
    (Params.default.bootRom = none ∧ Params.default.ramInit = []) ∧
    ({ Params.default with bootRom := some bootImage } : Params).bootRom.isSome = true := by decide

theorem test_witness_CartridgeLoadAndBatteryRam :
    (romImage 0x14F 0x00 0x00 0x00 []).size < 0x150 ∧ 0x150 ≤ (romImage 0x150 0x00 0x00 0x00 []).size ∧
    (∃ c, loadCartridge (romImage 0x150 0x03 0x00 0x00 []) [] 0 = .ok c ∧ CartWf c ∧ ∃ old, c.getRam = some old) :=
  ⟨by decide, by decide, _, rfl, ⟨Memory.wf_nil, by decide⟩, _, rfl⟩

theorem test_witness_InvariantAtReset :
    Params.default.inRange ∧ ({ Params.default with bootRom := some bootImage, windowPenalty := 196 } : Params).inRange :=
  ⟨by decide, by decide, by simp [bootImage]⟩

/-- Inv holds of S0, and its step answers a next state. -/
theorem test_witness_StepKeepsInvariant : Inv s0 ∧ ∃ t, step s0 = .next t := ⟨s0_inv, _, rfl⟩

end Sys2Proof.Tests
end

section
/-! SUPPORT. What a step keeps of the machine's set-up: the parameters, the wall clock and the cartridge's ROM image; and the errors
it can raise (60_exceptions.md R440). -/

namespace Sys2Proof.Machine

variable {s t u : State}

/-! ### The ROM image (21_cartridge.md R120) -/

@[simp] theorem Cartridge.ramWrite_rom (c : Cartridge) (en : Bool) (bank off : Nat) (v : Byte) :
    (c.ramWrite en bank off v).rom = c.rom := by
  unfold Cartridge.ramWrite
  split
  · rfl
  · split <;> rfl

@[simp] theorem Cartridge.afterRead_rom (c : Cartridge) (now : Nat) (a : Word) : (c.afterRead now a).rom = c.rom := by
  unfold Cartridge.afterRead
  split
  · split <;> rfl
  all_goals rfl

@[simp] theorem writeNoMbc_rom (c : Cartridge) (arr : Memory) (n : Nat) (v : Byte) : (writeNoMbc c arr n v).rom = c.rom := by
  unfold writeNoMbc
  split <;> rfl

@[simp] theorem writeMbc1_rom (c : Cartridge) (r : Mbc1) (n : Nat) (v : Byte) : (writeMbc1 c r n v).rom = c.rom := by
  unfold writeMbc1
  repeat' split
  all_goals simp

@[simp] theorem writeMbc2_rom (c : Cartridge) (r : Mbc2) (n : Nat) (v : Byte) : (writeMbc2 c r n v).rom = c.rom := by
  unfold writeMbc2
  repeat' split
  all_goals rfl

@[simp] theorem writeMbc3_rom (now : Nat) (c : Cartridge) (r : Mbc3) (n : Nat) (v : Byte) :
    (writeMbc3 now c r n v).rom = c.rom := by
  unfold writeMbc3
  repeat' split
  all_goals simp

@[simp] theorem writeMbc5_rom (c : Cartridge) (r : Mbc5) (n : Nat) (v : Byte) : (writeMbc5 c r n v).rom = c.rom := by
  unfold writeMbc5
  repeat' split
  all_goals simp

/-- A write sets bank registers, the clock or RAM, and in NoMBC the array of its own; the ROM image stays. -/
@[simp] theorem Cartridge.write_rom (c : Cartridge) (now : Nat) (a : Word) (v : Byte) : (c.write now a v).rom = c.rom := by
  unfold Cartridge.write
  split
  · exact writeNoMbc_rom c _ _ v
  · exact writeMbc1_rom c _ _ v
  · exact writeMbc2_rom c _ _ v
  · exact writeMbc3_rom now c _ _ v
  · exact writeMbc5_rom c _ _ v

/-- The ROM image of the loaded cartridge; none where no cartridge is loaded. -/
def State.romImage (s : State) : Option Image := s.cart.map Cartridge.rom

theorem State.romImage_isSome (s : State) : s.romImage.isSome = s.cart.isSome := Option.isSome_map

@[simp] theorem State.afterRead_romImage (s : State) (a : Word) : (s.afterRead a).romImage = s.romImage := by
  rw [State.afterRead_eq]
  unfold State.romImage
  simp only
  split
  · cases s.cart <;> simp
  · rfl

theorem ioWrite_romImage (s : State) (r : IoReg) (v : Byte) : (ioWrite s r v).state.romImage = s.romImage := by
  cases r with
  | dma =>
    exact dmaCopy_keeps (P := fun t => t.romImage = s.romImage) (fun t a h => (State.afterRead_romImage t a).trans h)
      (fun _ _ _ h => h) v 160 _ rfl
  | _ => rfl

@[simp] theorem State.afterWrite_romImage (s : State) (a : Word) (v : Byte) : (s.afterWrite a v).romImage = s.romImage := by
  unfold State.afterWrite memWrite
  cases route s.params a with
  | cart => cases hc : s.cart <;> simp [State.romImage, Access.state, hc]
  | io r => exact ioWrite_romImage s r v
  | _ => rfl

/-! ### What a step keeps -/

/-- `t` has the parameters, the wall clock and the ROM image of `s`, and where a cartridge is loaded no error but
`IllegalOpcode`. -/
structure KeepsSetup (s t : State) : Prop where
  params : t.params = s.params
  wallClock : t.wallClock = s.wallClock
  romImage : t.romImage = s.romImage
  error : CartLoaded s → ∀ e, t.runState = .faulted e → ∃ op address, e = .illegalOpcode op address

/-- A state that is not Faulted keeps its own set-up. -/
theorem KeepsSetup.refl (h : ∀ e, s.runState ≠ .faulted e) : KeepsSetup s s := ⟨rfl, rfl, rfl, fun _ e he => absurd he (h e)⟩

theorem KeepsSetup.cartLoaded (h : KeepsSetup s t) : t.cart.isSome = s.cart.isSome := by
  rw [← State.romImage_isSome, h.romImage, State.romImage_isSome]

/-- A change that leaves the run state too. -/
theorem KeepsSetup.change (h : KeepsSetup s t) (hp : u.params = t.params) (hw : u.wallClock = t.wallClock)
    (hr : u.romImage = t.romImage) (hs : u.runState = t.runState) : KeepsSetup s u :=
  ⟨hp.trans h.params, hw.trans h.wallClock, hr.trans h.romImage, fun hl e he => h.error hl e (hs.symm.trans he)⟩

/-- A change of the run state to one that is not Faulted. -/
theorem KeepsSetup.withRunState (h : KeepsSetup s t) {r : RunState} (hr : ∀ e, r ≠ .faulted e) :
    KeepsSetup s { t with runState := r } :=
  ⟨h.params, h.wallClock, h.romImage, fun _ e he => absurd he (hr e)⟩

/-- An error that fits a state with a cartridge is `IllegalOpcode`: `MBCNotLoaded` needs that none is loaded (20_memory.md R88). -/
theorem KeepsSetup.raise (h : KeepsSetup s t) {e : Fault} (hf : ErrorFits t e) : KeepsSetup s (t.raise e) := by
  refine ⟨h.params, h.wallClock, h.romImage, fun hl e' he => ?_⟩
  cases he
  cases e with
  | illegalOpcode op address => exact ⟨op, address, rfl⟩
  | mbcNotLoaded _ =>
    have hn : t.cart.isSome = false := hf
    rw [h.cartLoaded, hl] at hn
    exact nomatch hn

theorem KeepsSetup.device (h : KeepsSetup s t) (hd : DeviceChange t u) : KeepsSetup s u :=
  h.change hd.params hd.wallClock (congrArg (Option.map Cartridge.rom) hd.cart) hd.runState

/-- Every phase of a step keeps the set-up of the state the step began in. -/
theorem keepsSetup_stepClosed (s : State) : StepClosed (KeepsSetup s) where
  regs _ _ h _ := h.change rfl rfl rfl rfl
  halted _ h := h.withRunState nofun
  armed _ h _ := h.change rfl rfl rfl rfl
  raised _ _ h hf := h.raise hf
  cost _ _ h := h.change rfl rfl rfl rfl
  read t a h := h.change (by simp) (by simp) (by simp) (by simp)
  write t a v h := h.change (by simp) (by simp) (by simp) (by simp)
  masks _ _ _ h := h.change rfl rfl rfl rfl
  fetched _ _ h := h.change rfl rfl rfl rfl
  disarmed _ h := h.change rfl rfl rfl rfl
  running _ _ h := h.withRunState nofun
  irqFlags _ _ h := h.change rfl rfl rfl rfl
  devices _ c h := h.device (advanceDevices_change c)

/-- A step answers a next state only where the run state is not Faulted (60_exceptions.md R431). -/
theorem not_faulted_of_step (hs : step s = .next t) (e : Fault) : s.runState ≠ .faulted e := by
  intro he
  simp [step, he] at hs

theorem step_keepsSetup (hs : step s = .next t) : KeepsSetup s t :=
  step_closed (keepsSetup_stepClosed s) (KeepsSetup.refl (not_faulted_of_step hs)) hs

/-- Settles O40, by the invariant `KeepsSetup s` of the phases of a step. -/
theorem stepKeepsParametersAndCartridge : Obligations.StepKeepsParametersAndCartridge := by
  intro s t hs
  have hk := step_keepsSetup hs
  refine ⟨hk.params, hk.wallClock, hk.romImage, fun hl => ?_⟩
  cases hr : t.runState with
  | running => exact Or.inl (by simp [Safe, hr])
  | halted => exact Or.inl (by simp [Safe, hr])
  | faulted e =>
    obtain ⟨op, address, rfl⟩ := hk.error hl e hr
    exact Or.inr ⟨op, address, rfl⟩

end Sys2Proof.Machine
end

section
/-! SUPPORT. The machine's invariant: every bus access, the timer and the video engine keep it, so every phase of a step does
(10_state.md R31, R39; 20_memory.md R74; 60_exceptions.md R450, R455; 61_video.md R500). -/

namespace Sys2Proof.Machine

variable {s : State}

/-! ### Bus accesses -/

/-- A read retires the overlay or leaves it, and keeps every memory canonical. -/
theorem State.afterRead_inv (a : Word) (h : Inv s) : Inv (s.afterRead a) := by
  obtain ⟨hparams, hflags, harmed, hboot, hmem, hdiv, htima, hvideo⟩ := h
  refine ⟨by simpa using hparams, by simpa using hflags, by simpa using harmed, fun hb => ?_, State.afterRead_memWf hmem,
    by simpa using hdiv, by simpa using htima, by simpa using hvideo⟩
  rw [State.afterRead_bootActive, Bool.and_eq_true] at hb
  rw [State.afterRead_params]
  exact hboot hb.1

theorem State.writeOam_inv (i : Nat) (v : Byte) (h : Inv s) : Inv (s.writeOam i v) := by
  obtain ⟨hparams, hflags, harmed, hboot, hmem, hdiv, htima, hvideo⟩ := h
  exact ⟨hparams, hflags, harmed, hboot, State.writeOam_memWf hmem, hdiv, htima, hvideo⟩

/-- No I/O register's write sets a counter or the mode of the video engine; DIV's clears its accumulator, and DMA's is a run of
reads and OAM stores. -/
theorem ioWrite_inv (r : IoReg) (v : Byte) (h : Inv s) : Inv (ioWrite s r v).state := by
  cases r with
  | dma =>
    exact dmaCopy_keeps (P := fun t => Inv t) (fun _ a ht => State.afterRead_inv a ht) (fun _ i w ht => State.writeOam_inv i w ht)
      v 160 { s with bus := { s.bus with dmaReg := v } } h
  | div =>
    obtain ⟨hparams, hflags, harmed, hboot, hmem, -, htima, hvideo⟩ := h
    exact ⟨hparams, hflags, harmed, hboot, hmem, Nat.zero_lt_succ 255, htima, hvideo⟩
  | audio _ | nr52 | wave _ =>
    obtain ⟨hparams, hflags, harmed, hboot, hmem, hdiv, htima, hvideo⟩ := h
    exact ⟨hparams, hflags, harmed, hboot, ioWrite_memWf _ hmem, hdiv, htima, hvideo⟩
  | _ => exact h

/-- A write to a memory or the cartridge changes bytes and banks alone; the rest are the I/O registers. -/
theorem State.afterWrite_inv (a : Word) (v : Byte) (h : Inv s) : Inv (s.afterWrite a v) := by
  obtain ⟨hparams, hflags, harmed, hboot, hmem, hdiv, htima, hvideo⟩ := id h
  have hmem' := State.afterWrite_memWf (a := a) (v := v) hmem
  unfold State.afterWrite memWrite at hmem' ⊢
  cases hr : route s.params a with
  | io r => exact ioWrite_inv r v h
  | cart =>
    rw [hr] at hmem'
    cases hc : s.cart with
    | none => exact h
    | some c =>
      rw [hc] at hmem'
      exact ⟨hparams, hflags, harmed, hboot, hmem', hdiv, htima, hvideo⟩
  | _ =>
    rw [hr] at hmem'
    exact ⟨hparams, hflags, harmed, hboot, hmem', hdiv, htima, hvideo⟩

/-! ### The timer (60_exceptions.md R450, R455) -/

theorem timaPeriod_pos (tac : BitVec 3) : 0 < timaPeriod tac := by
  revert tac
  decide

theorem timaPeriod_le (tac : BitVec 3) : timaPeriod tac ≤ 1024 := by
  revert tac
  decide

theorem timaIncrement_accumulators :
    (timaIncrement s).bus.timer.divAcc = s.bus.timer.divAcc ∧ (timaIncrement s).bus.timer.timaAcc = s.bus.timer.timaAcc := by
  unfold timaIncrement
  simp only
  split <;> exact ⟨rfl, rfl⟩

/-- TIMA's increments touch neither accumulator. -/
theorem timaIncrements_accumulators (n : Nat) :
    (timaIncrements n s).bus.timer.divAcc = s.bus.timer.divAcc ∧ (timaIncrements n s).bus.timer.timaAcc = s.bus.timer.timaAcc := by
  induction n generalizing s with
  | zero => exact ⟨rfl, rfl⟩
  | succ n ih =>
    obtain ⟨hd, ht⟩ := timaIncrement_accumulators (s := s)
    exact ⟨ih.1.trans hd, ih.2.trans ht⟩

/-- The accumulators are remainders of their periods, TIMA's of at most 1024 cycles. -/
theorem timerAdvance_accumulators (c : Nat) (h : s.bus.timer.timaAcc < 1024) :
    (timerAdvance c s).bus.timer.divAcc < 256 ∧ (timerAdvance c s).bus.timer.timaAcc < 1024 := by
  have hd : (s.bus.timer.divAcc + c) % 256 < 256 := Nat.mod_lt _ (by decide)
  unfold timerAdvance timaAdvance
  simp only
  split
  · rw [(timaIncrements_accumulators _).1, (timaIncrements_accumulators _).2]
    exact ⟨hd, (Nat.mod_lt _ (timaPeriod_pos _)).trans_le (timaPeriod_le _)⟩
  · exact ⟨hd, h⟩

/-! ### The devices -/

/-- The timer and the video engine write no memory but the pictures, which stay canonical. -/
theorem advanceDevices_memWf (c : Nat) (h : MemWf s) : MemWf (advanceDevices c s) := by
  obtain ⟨hflat, haudio, hvram, hoam, hlines, hviewport, hcart⟩ := h
  have hd := advanceDevices_change (s := s) c
  have hv := timerAdvance_video (s := s) c
  obtain ⟨hl, hp, hvr, ho⟩ := videoAdvance_frames (s := timerAdvance c s) c (hv ▸ hlines) (hv ▸ hviewport)
  refine ⟨by rw [hd.bus]; exact hflat, by rw [hd.bus]; exact haudio, ?_, ?_, hl, hp, by rw [hd.cart]; exact hcart⟩
  · unfold advanceDevices
    rw [hvr, hv]
    exact hvram
  · unfold advanceDevices
    rw [ho, hv]
    exact hoam

theorem advanceDevices_inv (c : Nat) (h : Inv s) : Inv (advanceDevices c s) := by
  obtain ⟨hparams, hflags, harmed, hboot, hmem, -, htima, hvideo⟩ := h
  have hd := advanceDevices_change (s := s) c
  obtain ⟨hdiv', htima'⟩ := timerAdvance_accumulators c htima
  have ht : (advanceDevices c s).bus.timer = (timerAdvance c s).bus.timer := (videoAdvance_change c).timer
  refine ⟨by rw [hd.params]; exact hparams, by rw [hd.regs]; exact hflags, by rw [hd.haltBugArmed, hd.params]; exact harmed,
    by rw [hd.bus, hd.params]; exact hboot, advanceDevices_memWf c hmem, by rw [ht]; exact hdiv', by rw [ht]; exact htima', ?_⟩
  refine videoAdvance_wf c ?_ (by rw [timerAdvance_video]; exact hvideo)
  rw [(timerAdvance_change c).params]
  exact hparams.1

/-! ### The step -/

/-- Every phase of a step keeps the invariant. -/
theorem inv_stepClosed : StepClosed (fun t => Inv t) where
  regs _ _ h hf := by
    obtain ⟨hparams, hflags, harmed, hboot, hmem, hdiv, htima, hvideo⟩ := h
    exact ⟨hparams, hf.elim (fun he => he ▸ hflags) id, harmed, hboot, hmem, hdiv, htima, hvideo⟩
  halted _ h := h
  armed _ h hb := by
    obtain ⟨hparams, hflags, -, hboot, hmem, hdiv, htima, hvideo⟩ := h
    exact ⟨hparams, hflags, fun _ => hb, hboot, hmem, hdiv, htima, hvideo⟩
  raised _ _ h _ := h
  cost _ _ h := h
  read _ a h := State.afterRead_inv a h
  write _ a v h := State.afterWrite_inv a v h
  masks _ _ _ h := h
  fetched _ _ h := h
  disarmed _ h := by
    obtain ⟨hparams, hflags, -, hboot, hmem, hdiv, htima, hvideo⟩ := h
    exact ⟨hparams, hflags, nofun, hboot, hmem, hdiv, htima, hvideo⟩
  running _ _ h := h
  irqFlags _ _ h := h
  devices _ c h := advanceDevices_inv c h

/-- Settles O60: every phase of a step keeps the invariant, so the step does. -/
theorem stepKeepsInvariant : Obligations.StepKeepsInvariant :=
  fun _ _ h hs => step_closed inv_stepClosed h hs

end Sys2Proof.Machine
end

section
/-! SUPPORT. What an instruction does to IME and `ime_pending` (10_state.md R36, R38). -/

namespace Sys2Proof.Machine

variable {i : Instr} {s t : State}

/-- Neither a register update, a change of the run state nor a bus access writes the interrupt masks. -/
theorem interruptMasks_closed (Q : Bool → Bool → Prop) : Closed (fun t => Q t.ime t.imePending) where
  regs _ _ h _ := h
  halted _ h := h
  armed _ h _ := h
  raised _ _ h _ := h
  cost _ _ h := h
  read _ _ h := by simpa using h
  write _ _ _ h := by simpa using h

theorem NextKeeps.of_next {P : State → Prop} {x : Host.Outcome State Fault Refusal} (hx : NextKeeps P x) (h : x = .next t) :
    P t := by
  obtain ⟨u, hu, hp⟩ := hx
  cases hu.symm.trans h
  exact hp

/-- No instruction but DI, EI and RETI writes the interrupt masks. -/
theorem exec_interruptMasks (hi : ¬ (i = .di ∨ i = .ei ∨ i = .reti)) (h : exec i s = .next t) :
    t.ime = s.ime ∧ t.imePending = s.imePending :=
  (exec_closed (interruptMasks_closed fun ime pending => ime = s.ime ∧ pending = s.imePending) i
    (fun hm => absurd hm hi) ⟨rfl, rfl⟩).of_next h

/-- RETI clears `ime_pending` where its pop succeeds, and leaves it where the pop raises an error. -/
theorem reti_imePending (h : exec .reti s = .next t) : t.imePending = true → s.imePending = true := by
  have hc := interruptMasks_closed fun _ pending => pending = true → s.imePending = true
  have hr : Good _ (returnFromInterrupt s) := Good.bind (pop16_closed hc id) fun _ _ _ => Good.ok nofun
  exact (finish_closed hc hr).of_next h

/-- Settles O11: of the three instructions that write the masks, DI clears both, EI sets `ime_pending` alone and RETI IME alone. -/
theorem onlyRetiAndEiEnable : Obligations.OnlyRetiAndEiEnable := by
  intro i s t h
  by_cases hi : i = .di ∨ i = .ei ∨ i = .reti
  · obtain rfl | rfl | rfl := hi
    · cases h
      exact ⟨nofun, nofun⟩
    · cases h
      exact ⟨Or.inl, fun _ => Or.inr rfl⟩
    · exact ⟨fun _ => Or.inr rfl, fun hp => Or.inl (reti_imePending h hp)⟩
  · obtain ⟨hime, hpending⟩ := exec_interruptMasks hi h
    exact ⟨fun ht => Or.inl (hime ▸ ht), fun ht => Or.inl (hpending ▸ ht)⟩

end Sys2Proof.Machine
end

section
/-! SUPPORT. The register pairs and the flags byte as numbers (10_state.md R31, R32). -/

namespace Sys2Proof.Machine

theorem joinBytes_toNat (hi lo : Byte) : (joinBytes hi lo).toNat = hi.toNat * 256 + lo.toNat := by
  have hl : lo.toNat < 2 ^ 8 := lo.isLt
  rw [joinBytes, BitVec.toNat_append, ← Nat.shiftLeft_add_eq_or_of_lt hl, Nat.shiftLeft_eq]

theorem hiByte_eq_ofNat (v : Word) : hiByte v = BitVec.ofNat 8 (v.toNat / 256) := by
  apply BitVec.eq_of_toNat_eq
  simp [hiByte, Nat.shiftRight_eq_div_pow]

theorem loByte_eq_ofNat (v : Word) : loByte v = BitVec.ofNat 8 v.toNat := by
  apply BitVec.eq_of_toNat_eq
  simp [loByte]

theorem flagsToByte_toNat (x : Flags) :
    (flagsToByte x).toNat = 128 * x.z.toNat + 64 * x.n.toNat + 32 * x.h.toNat + 16 * x.c.toNat := by
  obtain ⟨z, n, h, c⟩ := x
  revert z n h c
  decide

/-- Settles O10: a pair is its two bytes joined and split again, and F the sum of its flags' weights. -/
theorem registersPairsAndFlags : Obligations.RegistersPairsAndFlags := by
  refine ⟨fun s r q v => ⟨s.getReg_setReg r q v, by simp, by simp, by simp⟩,
    fun s => ⟨joinBytes_toNat _ _, joinBytes_toNat _ _, joinBytes_toNat _ _, rfl, joinBytes_toNat _ _, rfl⟩, fun s v => ?_,
    flagsToByte_toNat, fun s x => ⟨s.setFlags_flags x, flagsToByte_low x, rfl⟩, fun _ => rfl⟩
  simp only [← hiByte_eq_ofNat, ← loByte_eq_ofNat]
  exact ⟨rfl, rfl, rfl, rfl, rfl⟩

end Sys2Proof.Machine
end

section
/-! SUPPORT. Where each address goes (20_memory.md R71, R72, R77). -/

namespace Sys2Proof.Machine

variable {p : Params} {a : Word} {r : IoReg}

/-! ### The I/O registers by address -/

theorem ioReg?_audio (h : 0xFF10 ≤ a.toNat ∧ a.toNat < 0xFF26) : ioReg? a = some (.audio a.toNat) := by
  simp only [ioReg?, BitVec.le_def, BitVec.ofNat_eq_ofNat, BitVec.reduceToNat]
  rw [if_pos (by omega)]

theorem ioReg?_wave (h : 0xFF30 ≤ a.toNat ∧ a.toNat < 0xFF40) : ioReg? a = some (.wave a.toNat) := by
  simp only [ioReg?, BitVec.le_def, BitVec.ofNat_eq_ofNat, BitVec.reduceToNat]
  rw [if_neg (by omega), if_pos (by omega)]

/-- A register is a byte of the audio file or of wave RAM at its own address, or a row of the table. -/
theorem ioReg?_cases (h : ioReg? a = some r) :
    (0xFF10 ≤ a.toNat ∧ a.toNat < 0xFF26 ∧ r = .audio a.toNat) ∨
    (0xFF30 ≤ a.toNat ∧ a.toNat < 0xFF40 ∧ r = .wave a.toNat) ∨ (a, r) ∈ ioTable := by
  simp only [ioReg?, BitVec.le_def, BitVec.ofNat_eq_ofNat, BitVec.reduceToNat] at h
  split at h
  · next ha => exact Or.inl ⟨ha.1, by omega, (Option.some.inj h).symm⟩
  · split at h
    · next ha => exact Or.inr (Or.inl ⟨ha.1, by omega, (Option.some.inj h).symm⟩)
    · exact Or.inr (Or.inr (lookup_mem h))

/-- The addresses below, above and between the registers of R77. -/
theorem ioReg?_eq_none (h : a.toNat < 0xFF00 ∨ a.toNat = 0xFF03 ∨ (0xFF08 ≤ a.toNat ∧ a.toNat < 0xFF0F) ∨
    (0xFF27 ≤ a.toNat ∧ a.toNat < 0xFF30) ∨ 0xFF4C ≤ a.toNat) : ioReg? a = none := by
  have hrows : ∀ e ∈ ioTable, 0xFF00 ≤ e.1.toNat ∧ e.1.toNat ≠ 0xFF03 ∧
      ¬ (0xFF08 ≤ e.1.toNat ∧ e.1.toNat < 0xFF0F) ∧
      ¬ (0xFF27 ≤ e.1.toNat ∧ e.1.toNat < 0xFF30) ∧ e.1.toNat < 0xFF4C := by decide
  cases hr : ioReg? a with
  | none => rfl
  | some r =>
    obtain ⟨h1, h2, -⟩ | ⟨h1, h2, -⟩ | hm := ioReg?_cases hr
    · omega
    · omega
    · have hrow := hrows (a, r) hm
      simp only at hrow
      omega

/-! ### Routing by address range -/

/-- The cartridge's two windows, with the address as a number. -/
theorem route_cart_iff : route p a = .cart ↔ a.toNat < 0x8000 ∨ (0xA000 ≤ a.toNat ∧ a.toNat < 0xC000) := by
  have h := route_cart (s := { State.reset with params := p }) (a := a)
  simp only [BitVec.le_def, BitVec.ofNat_eq_ofNat, BitVec.reduceToNat] at h
  rw [h]
  omega

theorem route_vram (h : 0x8000 ≤ a.toNat ∧ a.toNat < 0xA000) : route p a = .vram (a.toNat - 0x8000) := by
  simp only [route, BitVec.le_def, BitVec.ofNat_eq_ofNat, BitVec.reduceToNat]
  rw [if_neg (by omega), if_pos (by omega)]

theorem route_echo (h : 0xE000 ≤ a.toNat ∧ a.toNat < 0xFE00) :
    route p a = .flat (if p.echoMirror then a.toNat - 0x2000 else a.toNat) := by
  have hio : ioReg? a = none := ioReg?_eq_none (by omega)
  have hie : a ≠ 65535#16 := by bv_omega
  simp only [route, BitVec.le_def, BitVec.ofNat_eq_ofNat, BitVec.reduceToNat]
  rw [if_neg (by omega), if_neg (by omega)]
  cases p.echoMirror
  · rw [if_neg (by simp), if_neg (by omega), if_neg hie, hio, if_neg (by simp)]
  · rw [if_pos ⟨h.1, by omega, rfl⟩, if_pos rfl]

theorem route_oam (h : 0xFE00 ≤ a.toNat ∧ a.toNat < 0xFEA0) : route p a = .oam (a.toNat - 0xFE00) := by
  simp only [route, BitVec.le_def, BitVec.ofNat_eq_ofNat, BitVec.reduceToNat]
  rw [if_neg (by omega), if_neg (by omega), if_neg (by omega), if_pos (by omega)]

theorem route_ie : route p 0xFFFF = .ie := by
  simp [route]

/-- WRAM, and all from 0xFEA0 on but IE: an I/O register, or the flat array. -/
theorem route_flat_or_io (h : (0xC000 ≤ a.toNat ∧ a.toNat < 0xE000) ∨ (0xFEA0 ≤ a.toNat ∧ a.toNat < 0xFFFF)) :
    route p a = (ioReg? a).elim (.flat a.toNat) .io := by
  have hie : a ≠ 65535#16 := by bv_omega
  simp only [route, BitVec.le_def, BitVec.ofNat_eq_ofNat, BitVec.reduceToNat]
  rw [if_neg (by omega), if_neg (by omega), if_neg (by omega), if_neg (by omega), if_neg hie]
  cases ioReg? a <;> rfl

/-- Settles O33: the ranges of R71 and the rows of R77, each by its lemma. -/
theorem addressMap : Obligations.AddressMap := by
  refine ⟨by decide, fun p a => ⟨route_cart_iff, route_vram, fun h => ?_, route_echo, route_oam, fun h => ?_, fun h => ?_,
    ioReg?_audio, ioReg?_wave, fun h => ioReg?_eq_none (by omega), fun h => ?_⟩⟩
  · rw [route_flat_or_io (Or.inl h), ioReg?_eq_none (by omega)]
    rfl
  · rw [route_flat_or_io (by omega), ioReg?_eq_none (by omega)]
    rfl
  · rw [route_flat_or_io (by omega)]
    cases ioReg? a <;> rfl
  · rw [BitVec.eq_of_toNat_eq h (y := 0xFFFF), route_ie]

end Sys2Proof.Machine
end

section
/-! SUPPORT. What the boot overlay and a missing cartridge do to a bus access (20_memory.md R74, R75, R88, R89). -/

namespace Sys2Proof.Machine

variable {s t : State} {a : Word} {v : Byte}

/-! ### The boot overlay -/

theorem peek_overlaid (h : overlaid s a = true) : s.peek a = bootByte s.params a := if_pos h

theorem overlaid_iff : overlaid s a = true ↔ s.bus.bootActive = true ∧ a ≤ 0x00FF := by
  simp [overlaid]

/-- A boot image of 256 bytes has a byte at every address the overlay answers. -/
theorem some_bootByte {image : List Byte} (hi : s.params.bootRom = some image) (hl : image.length = 256) (ha : a ≤ 0x00FF) :
    some (bootByte s.params a) = image[a.toNat]? := by
  have hn : a.toNat < image.length := by
    rw [hl]
    bv_omega
  simp [bootByte, hi, List.getElem?_eq_getElem hn]

/-- Once retired, the overlay stays retired through a DMA copy. -/
theorem dmaCopy_bootActive_false (page : Byte) (n : Nat) (h : s.bus.bootActive = false) :
    (dmaCopy page n s).state.bus.bootActive = false :=
  dmaCopy_keeps (P := fun t => t.bus.bootActive = false) (fun t a h => by simp [h]) (fun _ _ _ h => h) page n s h

theorem dmaSource_eq_0x0100 {page : Byte} {i : Nat} (hi : i < 160) : dmaSource page i = 0x0100 ↔ page = 0x01 ∧ i = 0 := by
  have hp := page.isLt
  have h : (dmaSource page i).toNat = page.toNat * 256 + i := by simp [dmaSource]; omega
  rw [← BitVec.toNat_inj, ← BitVec.toNat_inj, h]
  simp only [BitVec.ofNat_eq_ofNat, BitVec.reduceToNat]
  omega

/-- A DMA copy's next byte, by its address in the page. -/
theorem dmaCopy_next (page : Byte) (n : Nat) (s : State) : dmaCopy page (n + 1) s =
    (memRead s (dmaSource page (159 - n))).bind fun v t => dmaCopy page n (t.writeOam (159 - n) v) := rfl

/-- What the reads of one page and the stores to OAM keep is kept by the DMA copy of that page. -/
theorem dmaCopy_keeps_of_page {P : State → Prop} {page : Byte}
    (hr : ∀ t i, i < 160 → P t → P (t.afterRead (dmaSource page i)))
    (hw : ∀ t i w, i < 160 → P t → P (t.writeOam i w)) (n : Nat) (s : State) (h : P s) : P (dmaCopy page n s).state := by
  induction n generalizing s with
  | zero => exact h
  | succ n ih =>
    have hs := hr s (159 - n) (by omega) h
    rw [dmaCopy_next]
    by_cases hc : CanRead s (dmaSource page (159 - n))
    · rw [memRead_ok hc]
      exact ih _ (hw _ _ _ (by omega) hs)
    · rw [memRead_error hc]
      exact hs

/-- A copy whose next byte is the one at 0x0100 retires the overlay. -/
theorem dmaCopy_retires {page : Byte} {n : Nat} (h : dmaSource page (159 - n) = 0x0100) :
    (dmaCopy page (n + 1) s).state.bus.bootActive = false := by
  have hr : (s.afterRead 0x0100).bus.bootActive = false := by simp
  rw [dmaCopy_next, h]
  by_cases hc : CanRead s 0x0100
  · rw [memRead_ok hc, Access.bind_ok]
    exact dmaCopy_bootActive_false page n (s := (s.afterRead 0x0100).writeOam (159 - n) (s.peek 0x0100)) hr
  · rw [memRead_error hc, Access.bind_error]
    exact hr

/-- A page but page 1 does not hold 0x0100. -/
theorem dmaCopy_bootActive_of_ne {page : Byte} (h : page ≠ 0x01) (n : Nat) (s : State) :
    (dmaCopy page n s).state.bus.bootActive = s.bus.bootActive := by
  refine dmaCopy_keeps_of_page (P := fun t => t.bus.bootActive = s.bus.bootActive) (fun t i hi ht => ?_)
    (fun _ _ _ _ ht => ht) n s rfl
  have hne : dmaSource page i ≠ 0x0100 := fun he => h ((dmaSource_eq_0x0100 hi).1 he).1
  rw [State.afterRead_bootActive, decide_eq_true hne, Bool.and_true, ht]

/-- The copy of page 1 begins with a read of 0x0100; no other page's does read it. -/
theorem dmaCopy_bootActive (page : Byte) (s : State) :
    (dmaCopy page 160 s).state.bus.bootActive = (s.bus.bootActive && !decide (page = 0x01)) := by
  by_cases hp : page = 0x01
  · rw [decide_eq_true hp, Bool.not_true, Bool.and_false]
    exact dmaCopy_retires (n := 159) (by rw [hp]; decide)
  · rw [decide_eq_false hp, Bool.not_false, Bool.and_true, dmaCopy_bootActive_of_ne hp]

theorem State.afterWrite_io {r : IoReg} (h : route s.params a = .io r) : s.afterWrite a v = (ioWrite s r v).state := by
  simp only [State.afterWrite, memWrite, h]

/-- No write retires the overlay but the DMA copy of page 1 (R75, R470). -/
theorem State.afterWrite_bootActive (s : State) (a : Word) (v : Byte) :
    (s.afterWrite a v).bus.bootActive = (s.bus.bootActive && !decide (a = 0xFF46 ∧ v = 0x01)) := by
  by_cases ha : a = 0xFF46
  · rw [State.afterWrite_io (route_dma.2 ha)]
    simp only [ha, true_and, ioWrite, dmaCopy_bootActive]
  · rw [decide_eq_false (fun h => ha h.1), Bool.not_false, Bool.and_true]
    unfold State.afterWrite memWrite
    cases hr : route s.params a with
    | cart => cases s.cart <;> rfl
    | io r =>
      cases r with
      | dma => exact absurd (route_dma.1 hr) ha
      | _ => rfl
    | _ => rfl

theorem State.afterWrite_bootActive_of_ne (h : a ≠ 0xFF46) : (s.afterWrite a v).bus.bootActive = s.bus.bootActive := by
  rw [State.afterWrite_bootActive, decide_eq_false (fun he => h he.1), Bool.not_false, Bool.and_true]

/-- No phase of a step makes a retired overlay active again. -/
theorem overlayRetired_stepClosed : StepClosed (fun t => t.bus.bootActive = false) where
  regs _ _ h _ := h
  halted _ h := h
  armed _ h _ := h
  raised _ _ h _ := h
  cost _ _ h := h
  read _ _ h := by simp [h]
  write _ _ _ h := by simp [State.afterWrite_bootActive, h]
  masks _ _ _ h := h
  fetched _ _ h := h
  disarmed _ h := h
  running _ _ h := h
  irqFlags _ _ h := h
  devices _ c h := by rw [(advanceDevices_change c).bus]; exact h

/-- Settles O38: 0x0100 is the cartridge's first byte past the overlay, so its read retires the overlay and needs a cartridge. -/
theorem overlayShadowsUntilRetired : Obligations.OverlayShadowsUntilRetired := by
  intro s t a v
  have hfree : overlaid s 0x0100 = false := by simp [overlaid]
  refine ⟨fun hb ha => ?_, s.afterRead_bootActive a, s.afterWrite_bootActive a v, hfree, fun hc hr => ?_,
    fun hs hb => step_closed overlayRetired_stepClosed hb hs⟩
  · have ho := overlaid_iff.2 ⟨hb, ha⟩
    exact ⟨Or.inr (Or.inl ho), fun image hi hl => peek_overlaid ho ▸ some_bootByte hi hl ha⟩
  · obtain hl | ho | hn := hr
    · simp [CartLoaded, hc] at hl
    · exact Bool.noConfusion (hfree.symm.trans ho)
    · exact hn (route_cart.2 (Or.inl (by decide)))

/-! ### No cartridge loaded -/

theorem not_canRead_iff : ¬ CanRead s a ↔ s.cart = none ∧ route s.params a = .cart ∧ overlaid s a = false := by
  simp only [CanRead, CartLoaded, not_or, Option.isSome_iff_ne_none, not_not, Bool.not_eq_true]
  tauto

/-- Away from DMA, a write misses the cartridge only at the cartridge's own addresses. -/
theorem not_canWrite_iff (h : a ≠ 0xFF46) : ¬ CanWrite s a v ↔ s.cart = none ∧ route s.params a = .cart := by
  rw [CanWrite, CartLoaded, eq_false h, false_implies, and_true, not_or, not_not, Bool.not_eq_true, Option.isSome_eq_false_iff,
    Option.isNone_iff_eq_none]

theorem memRead_eq_error_iff {e : Fault} : memRead s a = .error e t ↔
    ¬ CanRead s a ∧ e = .mbcNotLoaded a ∧ t = s.afterRead a := by
  by_cases hc : CanRead s a
  · simp [memRead_ok hc, hc]
  · simp [memRead_error hc, hc, eq_comm]

theorem memWrite_eq_error_iff {e : Fault} : memWrite s a v = .error e t ↔
    ¬ CanWrite s a v ∧ e = .mbcNotLoaded (missedAddr a v) ∧ t = s.afterWrite a v := by
  by_cases hc : CanWrite s a v
  · simp [memWrite_ok hc, hc]
  · simp [memWrite_error hc, hc, eq_comm]

/-- Settles O39: an access raises an error exactly where `CanRead` or `CanWrite` fails. -/
theorem noCartridgeRaises : Obligations.NoCartridgeRaises := by
  intro s a v
  refine ⟨?_, fun e t h => (memRead_eq_error_iff.1 h).2.1, memRead_ok, fun ha => ?_,
    fun e t h => (memWrite_eq_error_iff.1 h).2.1, fun h => ⟨_, memWrite_ok h⟩, fun ⟨t, ht⟩ => ?_⟩
  · rw [← not_canRead_iff]
    simp only [memRead_eq_error_iff, exists_and_left, exists_eq, and_true]
  · rw [← not_canWrite_iff (v := v) ha]
    simp only [memWrite_eq_error_iff, exists_and_left, exists_eq, and_true]
  · by_contra hc
    simp [memWrite_error hc] at ht

end Sys2Proof.Machine
end

section
/-! SUPPORT. No instruction moves the devices (20_memory.md R85; 60_exceptions.md R462; 61_video.md R533, R581). -/

namespace Sys2Proof.Machine

/-- What only the device phases and the host move: the video engine's progress and pictures, the TIMA accumulator and
the buttons. -/
def State.deviceProgress (s : State) :=
  (s.video.ly, s.video.lineCycle, s.video.mode, s.video.lines, s.video.viewport, s.video.coinc, s.video.spriteBuf,
    s.video.winLine, s.video.winYLatch, s.video.winDrawn, s.video.drawEnd, s.video.lcdActive, s.bus.timer.timaAcc,
    s.bus.joypad.slot0, s.bus.joypad.others)

theorem State.afterRead_deviceProgress (s : State) (a : Word) : (s.afterRead a).deviceProgress = s.deviceProgress := by
  simp [State.deviceProgress]

theorem ioWrite_deviceProgress (s : State) (r : IoReg) (v : Byte) : (ioWrite s r v).state.deviceProgress = s.deviceProgress := by
  cases r with
  | dma =>
    exact dmaCopy_keeps (P := fun t => t.deviceProgress = s.deviceProgress)
      (fun t a h => (t.afterRead_deviceProgress a).trans h) (fun _ _ _ h => h) v 160 _ rfl
  | _ => rfl

theorem State.afterWrite_deviceProgress (s : State) (a : Word) (v : Byte) :
    (s.afterWrite a v).deviceProgress = s.deviceProgress := by
  unfold State.afterWrite memWrite
  cases route s.params a with
  | cart => cases s.cart <;> rfl
  | io r => exact ioWrite_deviceProgress s r v
  | _ => rfl

/-- Nothing an instruction does to the state moves the devices. -/
theorem deviceProgress_closed (s : State) : Closed (fun t => t.deviceProgress = s.deviceProgress) where
  regs _ _ h _ := h
  halted _ h := h
  armed _ h _ := h
  raised _ _ h _ := h
  cost _ _ h := h
  read t a h := (t.afterRead_deviceProgress a).trans h
  write t a v h := (t.afterWrite_deviceProgress a v).trans h

/-- Settles O41: the devices' progress is kept by every change an instruction makes. -/
theorem devicesMoveOnlyBetweenInstructions : Obligations.DevicesMoveOnlyBetweenInstructions := by
  intro i s t h
  have hk : t.deviceProgress = s.deviceProgress :=
    (exec_closed (deviceProgress_closed s) i (fun _ _ _ _ h => h) rfl).of_next h
  simpa only [State.deviceProgress, Prod.mk.injEq] using hk

end Sys2Proof.Machine
end

section
/-! SUPPORT. What a bus write leaves of every byte (20_memory.md R73, R76, R77, R83). -/

namespace Sys2Proof

/-- A byte list written from `i` on leaves the indexes before and after it, canonical form or not. -/
theorem Memory.read_writeAll_outside {bytes : List Byte} {m : Memory} {i j : Nat} (h : j < i ∨ i + bytes.length ≤ j) :
    Memory.read (Memory.writeAll m i bytes) j = Memory.read m j := by
  induction bytes generalizing m i with
  | nil => rfl
  | cons x xs ih =>
    rw [List.length_cons] at h
    rw [Memory.writeAll, ih (by omega), Memory.read_write_ne (by omega)]

end Sys2Proof

namespace Sys2Proof.Machine

variable {s t : State} {a b : Word} {v : Byte} {p : Params} {r : IoReg}

@[simp] theorem Access.state_ok {α : Type} (x : α) (s : State) : (Access.ok x s).state = s := rfl

@[simp] theorem Access.state_error {α : Type} (e : Fault) (s : State) : (Access.error e s : Access α).state = s := rfl

/-! ### The address of a route -/

theorem ioReg?_of_route (h : route p a = .io r) : ioReg? a = some r := by
  have h00 := route_io h
  have hie : a ≠ 0xFFFF := by
    rintro rfl
    rw [route_ie] at h
    exact nomatch h
  rw [route_flat_or_io (Or.inr (by bv_omega))] at h
  cases hr : ioReg? a with
  | none => simp [hr] at h
  | some q =>
    rw [hr] at h
    rw [Route.io.inj h]

theorem route_audio {i : Nat} (h : route p a = .io (.audio i)) : i = a.toNat ∧ 0xFF10 ≤ i ∧ i < 0xFF26 := by
  obtain ⟨h1, h2, he⟩ | ⟨-, -, he⟩ | hm := ioReg?_cases (ioReg?_of_route h)
  · cases he
    exact ⟨rfl, h1, h2⟩
  · exact nomatch he
  · simp [ioTable] at hm

theorem route_wave {i : Nat} (h : route p a = .io (.wave i)) : i = a.toNat ∧ 0xFF30 ≤ i ∧ i < 0xFF40 := by
  obtain ⟨-, -, he⟩ | ⟨h1, h2, he⟩ | hm := ioReg?_cases (ioReg?_of_route h)
  · exact nomatch he
  · cases he
    exact ⟨rfl, h1, h2⟩
  · simp [ioTable] at hm

theorem route_nr52 (h : route p a = .io .nr52) : a = 0xFF26 := by
  obtain ⟨-, -, he⟩ | ⟨-, -, he⟩ | hm := ioReg?_cases (ioReg?_of_route h)
  · exact nomatch he
  · exact nomatch he
  · simpa [ioTable] using hm

theorem route_eq_ie (h : route p a = .ie) : a = 0xFFFF := by
  by_contra hn
  unfold route at h
  rw [if_neg hn] at h
  repeat' split at h
  all_goals exact nomatch h

theorem route_eq_oam {i : Nat} (h : route p a = .oam i) : 0xFE00 ≤ a ∧ a ≤ 0xFE9F := by
  by_contra hn
  unfold route at h
  rw [if_neg hn] at h
  repeat' split at h
  all_goals exact nomatch h

/-! ### The value a route gives -/

/-- The value a bus read of `a` gives where `r` is its route and no overlay answers (R72). -/
def State.routeRead (s : State) (a : Word) (r : Route) : Byte :=
  match r with
  | .cart => (s.cart.map fun c => c.read s.params.mbc1Model a).getD 0xFF
  | .vram i => Memory.read s.video.vram i
  | .oam i => Memory.read s.video.oam i
  | .io r => ioRead s r
  | .ie => s.bus.ieReg
  | .flat i => Memory.read s.bus.flat i

theorem State.peek_eq (s : State) (a : Word) :
    s.peek a = if overlaid s a then bootByte s.params a else s.routeRead a (route s.params a) := by
  unfold State.peek State.routeRead
  split
  · rfl
  · cases route s.params a with
    | cart => cases s.cart <;> rfl
    | _ => rfl

/-- What is not the cartridge's is never under the overlay. -/
theorem State.peek_of_not_cart (h : route s.params a ≠ .cart) : s.peek a = s.routeRead a (route s.params a) := by
  have ha := route_not_cart h
  have ho : overlaid s a = false := by
    rw [overlaid, decide_eq_false (by bv_omega), Bool.and_false]
  rw [State.peek_eq, ho]
  rfl

/-- A state with the same overlay that reads alike by the route reads alike. -/
theorem State.peek_eq_of_routeRead (hp : t.params = s.params) (ho : t.bus.bootActive = s.bus.bootActive)
    (h : t.routeRead b (route s.params b) = s.routeRead b (route s.params b)) : t.peek b = s.peek b := by
  rw [State.peek_eq, State.peek_eq, overlaid, overlaid, hp, ho, h]

theorem State.afterRead_routeRead (r : Route) : (s.afterRead a).routeRead b r = s.routeRead b r := by
  cases r with
  | cart =>
    simp only [State.routeRead, State.afterRead_params]
    rw [State.afterRead_eq]
    by_cases hc : overlaid s a = false ∧ route s.params a = .cart
    · simp only [hc, and_self, if_true]
      cases s.cart <;> simp
    · simp only [hc, if_false]
  | io r => cases r <;> simp [State.routeRead, ioRead]
  | _ => simp [State.routeRead]

/-- A read leaves what every address reads, but for the bytes under an overlay that it retires (R75, R82). -/
theorem State.afterRead_peek (h : a ≠ 0x0100 ∨ 0x0100 ≤ b ∨ s.bus.bootActive = false) :
    (s.afterRead a).peek b = s.peek b := by
  have ho : overlaid (s.afterRead a) b = overlaid s b := by
    rw [overlaid, overlaid, State.afterRead_bootActive]
    obtain h | h | h := h
    · rw [decide_eq_true h, Bool.and_true]
    · rw [decide_eq_false (show ¬ b ≤ 0x00FF by bv_omega), Bool.and_false, Bool.and_false]
    · rw [h, Bool.false_and]
  rw [State.peek_eq, State.peek_eq, ho, State.afterRead_params, State.afterRead_routeRead]

/-! ### What a write leaves, by its route (R73) -/

theorem State.afterWrite_cart (h : route s.params a = .cart) :
    s.afterWrite a v = { s with cart := s.cart.map fun c => c.write s.wallClock a v } := by
  unfold State.afterWrite memWrite
  cases hc : s.cart with
  | none =>
    simp only [h, Option.map_none, Access.state_error]
    rw [← hc]
  | some c => simp only [h, Option.map_some, Access.state_ok]

theorem State.afterWrite_vram {i : Nat} (h : route s.params a = .vram i) :
    s.afterWrite a v = { s with video := { s.video with vram := Memory.write s.video.vram i v } } := by
  simp only [State.afterWrite, memWrite, h, Access.state_ok]

theorem State.afterWrite_oam {i : Nat} (h : route s.params a = .oam i) : s.afterWrite a v = s.writeOam i v := by
  simp only [State.afterWrite, memWrite, h, Access.state_ok]

theorem State.afterWrite_ie (h : route s.params a = .ie) : s.afterWrite a v = { s with bus := { s.bus with ieReg := v } } := by
  simp only [State.afterWrite, memWrite, h, Access.state_ok]

theorem State.afterWrite_flat {i : Nat} (h : route s.params a = .flat i) :
    s.afterWrite a v = { s with bus := { s.bus with flat := Memory.write s.bus.flat i v } } := by
  simp only [State.afterWrite, memWrite, h, Access.state_ok]

/-! ### The audio registers (60_exceptions.md R475, R476) -/

@[simp] theorem audioWrite_power (x : Audio) (i : Nat) : (audioWrite x i v).power = x.power := by
  unfold audioWrite
  split <;> rfl

theorem audioWrite_read_ne (x : Audio) {i j : Nat} (h : j ≠ i) :
    Memory.read (audioWrite x i v).regs j = Memory.read x.regs j := by
  unfold audioWrite
  split
  · exact Memory.read_write_ne h
  · rfl

theorem nr52Write_read_outside (x : Audio) {j : Nat} (h : 0xFF26 ≤ j) :
    Memory.read (nr52Write x v).regs j = Memory.read x.regs j := by
  have hl : (List.replicate 22 (0 : Byte)).length = 22 := List.length_replicate
  unfold nr52Write
  generalize List.replicate 22 (0 : Byte) = zeros at hl ⊢
  split
  · rfl
  · exact Memory.read_writeAll_outside (Or.inr (by omega))

/-! ### What a register's write leaves of the others -/

/-- A write to a register but DMA and NR52 leaves the others as they read (R77). -/
theorem ioRead_ioWrite_ne {q : IoReg} (ha : route p a = .io r) (hb : route p b = .io q) (hne : q ≠ r) (hd : r ≠ .dma)
    (hn : r ≠ .nr52) : ioRead (ioWrite s r v).state q = ioRead s q := by
  have hab : b.toNat ≠ a.toNat := fun h => by
    rw [BitVec.eq_of_toNat_eq h, ha] at hb
    exact hne (Route.io.inj hb).symm
  cases r with
  | dma => exact absurd rfl hd
  | nr52 => exact absurd rfl hn
  | audio i =>
    obtain ⟨rfl, -, -⟩ := route_audio ha
    cases q with
    | audio j =>
      obtain ⟨rfl, -, -⟩ := route_audio hb
      exact audioWrite_read_ne s.bus.audio hab
    | wave j =>
      obtain ⟨rfl, -, -⟩ := route_wave hb
      exact audioWrite_read_ne s.bus.audio hab
    | nr52 => simp [ioRead, ioWrite]
    | _ => rfl
  | wave i =>
    obtain ⟨rfl, -, -⟩ := route_wave ha
    cases q with
    | audio j =>
      obtain ⟨rfl, -, -⟩ := route_audio hb
      exact Memory.read_write_ne hab
    | wave j =>
      obtain ⟨rfl, -, -⟩ := route_wave hb
      exact Memory.read_write_ne hab
    | _ => rfl
  | _ => -- the register itself, which `hne` excludes, or a field of its own
    cases q <;> first | exact absurd rfl hne | rfl

end Sys2Proof.Machine
end

section
/-! SUPPORT. The constructors of a family run the family's shared operation (30_encoding.md R182 to R188). -/

namespace Sys2Proof.Machine

variable (s : State)

theorem exec_ldR8 (r : Reg8) (k : R8) : exec (.ldR8 (.reg r) k) s = loadR8 (.reg r) k s := by
  cases k with
  | atHL => cases r <;> rfl
  | reg q => cases r <;> cases q <;> rfl

theorem exec_ldImm (d : R8) (n : Byte) : exec (.ldImm d n) s = loadImm d n s := by
  cases d with
  | atHL => rfl
  | reg r => cases r <;> rfl

theorem exec_ldAFrom (p : MemPair) : exec (.ldAFrom p) s = loadAMem p s := by cases p <;> rfl

theorem exec_ldPair (q : Pair) (nn : Word) : exec (.ldPair q nn) s = loadPair q nn s := by cases q <;> rfl

theorem exec_pop (g : StackPair) : exec (.pop g) s = popPair g s := by cases g <;> rfl

theorem exec_alu (o : AluOp) (k : R8) : exec (.alu o k) s = aluR8 o k s := by
  cases k with
  | atHL => cases o <;> rfl
  | reg r => cases o <;> cases r <;> rfl

theorem exec_aluImm (o : AluOp) (n : Byte) : exec (.aluImm o n) s = aluImm o n s := by cases o <;> rfl

theorem exec_incR8 (k : R8) : exec (.incR8 k) s = incR8 k s := by
  cases k with
  | atHL => rfl
  | reg r => cases r <;> rfl

theorem exec_decR8 (k : R8) : exec (.decR8 k) s = decR8 k s := by
  cases k with
  | atHL => rfl
  | reg r => cases r <;> rfl

theorem exec_addHl (q : Pair) : exec (.addHl q) s = addHl q s := by cases q <;> rfl

theorem exec_incPair (q : Pair) : exec (.incPair q) s = incPair q s := by cases q <;> rfl

theorem exec_decPair (q : Pair) : exec (.decPair q) s = decPair q s := by cases q <;> rfl

theorem exec_jpIf (cc : Cond) (nn : Word) : exec (.jpIf cc nn) s = jumpIf cc nn s := by cases cc <;> rfl

theorem exec_jrIf (cc : Cond) (e : Byte) : exec (.jrIf cc e) s = jumpRelIf cc e s := by cases cc <;> rfl

theorem exec_retIf (cc : Cond) : exec (.retIf cc) s = retIf cc s := by cases cc <;> rfl

theorem exec_rot (m : RotOp) (k : R8) : exec (.rot m k) s = rotateR8 m k s := by
  cases k with
  | atHL => cases m <;> rfl
  | reg r => cases m <;> cases r <;> rfl

/-- A statement about a bit number holds where it holds for each of the eight. -/
theorem forall_bitNumber {P : BitVec 3 → Prop} (h0 : P 0) (h1 : P 1) (h2 : P 2) (h3 : P 3) (h4 : P 4) (h5 : P 5) (h6 : P 6)
    (h7 : P 7) (y : BitVec 3) : P y := by
  have hy : y = 0 ∨ y = 1 ∨ y = 2 ∨ y = 3 ∨ y = 4 ∨ y = 5 ∨ y = 6 ∨ y = 7 := by
    revert y
    decide
  obtain rfl | rfl | rfl | rfl | rfl | rfl | rfl | rfl := hy <;> assumption

theorem exec_bit (y : BitVec 3) (k : R8) : exec (.bit y k) s = bitR8 y k s := by
  cases k with
  | atHL => induction y using forall_bitNumber <;> rfl
  | reg r => cases r <;> induction y using forall_bitNumber <;> rfl

theorem exec_res (y : BitVec 3) (k : R8) : exec (.res y k) s = resR8 y k s := by
  cases k with
  | atHL => induction y using forall_bitNumber <;> rfl
  | reg r => cases r <;> induction y using forall_bitNumber <;> rfl

theorem exec_set (y : BitVec 3) (k : R8) : exec (.set y k) s = setR8 y k s := by
  cases k with
  | atHL => induction y using forall_bitNumber <;> rfl
  | reg r => cases r <;> induction y using forall_bitNumber <;> rfl

end Sys2Proof.Machine
end

section
/-! SUPPORT. The instructions that store nothing keep what an address reads (20_memory.md R82). -/

namespace Sys2Proof.Machine

variable {b : Word} {s t u : State}

@[simp] theorem writeR8_reg (r : Reg8) (v : Byte) : writeR8 s (.reg r) v = .ok () (s.setReg r v) := rfl

/-- `t` reads as `s` does at `b`, where no retirement of the overlay can change that. -/
structure ReadsAlike (b : Word) (s t : State) : Prop where
  peek : t.peek b = s.peek b
  uncovered : t.bus.bootActive = false ∨ 0x0100 ≤ b

/-- A change of the CPU's own state alone. -/
theorem ReadsAlike.update (h : ReadsAlike b s t) (hp : u.params = t.params := by simp) (hb : u.bus = t.bus := by simp)
    (hv : u.video = t.video := by simp) (hc : u.cart = t.cart := by simp) : ReadsAlike b s u :=
  ⟨(congrFun (State.peek_congr hp hb hv hc) b).trans h.peek, hb ▸ h.uncovered⟩

theorem ReadsAlike.read (h : ReadsAlike b s t) (a : Word) : ReadsAlike b s (t.afterRead a) := by
  refine ⟨(State.afterRead_peek (Or.inr h.uncovered.symm)).trans h.peek, h.uncovered.imp_left fun hb => ?_⟩
  rw [State.afterRead_bootActive, hb, Bool.false_and]

/-! ### Accesses -/

theorem ReadsAlike.bind {α β : Type} {x : Access α} {f : α → State → Access β} (hx : ReadsAlike b s x.state)
    (hf : ∀ v t, ReadsAlike b s t → ReadsAlike b s (f v t).state) : ReadsAlike b s (x.bind f).state := by
  cases x with
  | ok v t => exact hf v t hx
  | error e t => exact hx

theorem ReadsAlike.memRead (h : ReadsAlike b s t) (a : Word) : ReadsAlike b s (memRead t a).state := by
  have hr := h.read a
  by_cases hc : CanRead t a
  · rwa [memRead_ok hc]
  · rwa [memRead_error hc]

theorem ReadsAlike.readR8 (h : ReadsAlike b s t) (k : R8) : ReadsAlike b s (readR8 t k).state := by
  cases k with
  | reg r => exact h
  | atHL => exact h.memRead _

theorem ReadsAlike.pop16 (h : ReadsAlike b s t) : ReadsAlike b s (pop16 t).state :=
  ReadsAlike.bind (h.memRead _) fun _ _ ht => ReadsAlike.bind (ht.update.memRead _) fun _ _ hu => hu.update

/-! ### Instructions -/

/-- The end of an instruction sets its cost, or raises the error. -/
theorem readsAlike_of_finish {x : Access Unit} {cost : Nat} (h : finish cost x = .next u) (hx : ReadsAlike b s x.state) :
    ReadsAlike b s u := by
  cases x with
  | ok v t => cases h; exact hx.update
  | error e t => cases h; exact hx.update

/-- An instruction whose accesses end in `x` and that sets the CPU's own state from the value. -/
theorem readsAlike_of_finish_bind {α : Type} {x : Access α} {f : α → State → Access Unit} {cost : Nat}
    (h : finish cost (x.bind f) = .next u) (hx : ReadsAlike b s x.state)
    (hf : ∀ v t, ReadsAlike b s t → ReadsAlike b s (f v t).state) : ReadsAlike b s u :=
  readsAlike_of_finish h (hx.bind hf)

theorem jumpIf_readsAlike {cc : Cond} {nn : Word} (hs : ReadsAlike b s s) (h : jumpIf cc nn s = .next t) : ReadsAlike b s t := by
  unfold jumpIf at h
  split at h <;> exact readsAlike_of_finish h hs.update

theorem jumpRelIf_readsAlike {cc : Cond} {e : Byte} (hs : ReadsAlike b s s) (h : jumpRelIf cc e s = .next t) :
    ReadsAlike b s t := by
  unfold jumpRelIf at h
  split at h <;> exact readsAlike_of_finish h hs.update

theorem retIf_readsAlike {cc : Cond} (hs : ReadsAlike b s s) (h : retIf cc s = .next t) : ReadsAlike b s t := by
  unfold retIf at h
  split at h
  · exact readsAlike_of_finish_bind h hs.pop16 fun _ _ ht => ht.update
  · exact readsAlike_of_finish h hs

theorem haltCpu_readsAlike (hs : ReadsAlike b s s) (h : haltCpu s = .next t) : ReadsAlike b s t := by
  unfold haltCpu at h
  split at h <;> exact readsAlike_of_finish h hs.update

theorem stopCpu_readsAlike (hs : ReadsAlike b s s) (h : stopCpu s = .next t) : ReadsAlike b s t := by
  unfold stopCpu at h
  split at h <;> exact readsAlike_of_finish h hs.update

/-- Settles O37: each of the instructions makes at most bus reads, then sets the CPU's own state from what they gave. -/
theorem nonStoringInstructionsKeepMemory : Obligations.NonStoringInstructionsKeepMemory := by
  rintro s t b hb i ⟨r, k, p, q, g, o, m, cc, y, n, nn, hi⟩ h
  have hs : ReadsAlike b s s := ⟨rfl, hb⟩
  suffices ReadsAlike b s t from this.peek
  simp only [List.mem_cons, List.not_mem_nil, or_false] at hi
  rcases hi with rfl | rfl | rfl | rfl | rfl | rfl | rfl | rfl | rfl | rfl | rfl | rfl | rfl | rfl | rfl | rfl | rfl | rfl | rfl |
    rfl | rfl | rfl | rfl | rfl | rfl | rfl | rfl | rfl | rfl | rfl | rfl | rfl | rfl | rfl | rfl | rfl | rfl | rfl | rfl | rfl |
    rfl | rfl | rfl
  · exact readsAlike_of_finish_bind (exec_ldR8 s r k ▸ h) (hs.readR8 k) fun _ _ ht => ht.update
  · cases exec_ldImm s (.reg r) n ▸ h; exact hs.update
  · exact readsAlike_of_finish_bind (exec_ldAFrom s p ▸ h) (hs.memRead _) fun _ _ ht => ht.update
  · exact readsAlike_of_finish_bind (show loadAFrom nn 16 s = .next t from h) (hs.memRead _) fun _ _ ht => ht.update
  · exact readsAlike_of_finish_bind (show loadAFrom (highPage n) 12 s = .next t from h) (hs.memRead _) fun _ _ ht => ht.update
  · exact readsAlike_of_finish_bind (show loadAFrom (highPage s.regs.c) 8 s = .next t from h) (hs.memRead _)
      fun _ _ ht => ht.update
  · cases exec_ldPair s q nn ▸ h; exact hs.update
  · cases h; exact hs.update -- LD SP,HL
  · cases h; exact hs.update -- LD HL,SP+e
  · exact readsAlike_of_finish_bind (exec_pop s g ▸ h) hs.pop16 fun _ _ ht => ht.update
  · exact readsAlike_of_finish_bind (exec_alu s o k ▸ h) (hs.readR8 k) fun _ _ ht => ht.update
  · cases exec_aluImm s o n ▸ h; exact hs.update
  · exact readsAlike_of_finish_bind (exec_incR8 s (.reg r) ▸ h) (hs.readR8 (.reg r)) fun _ _ ht => ht.update
  · exact readsAlike_of_finish_bind (exec_decR8 s (.reg r) ▸ h) (hs.readR8 (.reg r)) fun _ _ ht => ht.update
  · cases h; exact hs.update -- DAA
  · cases h; exact hs.update -- CPL
  · cases h; exact hs.update -- SCF
  · cases h; exact hs.update -- CCF
  · cases exec_addHl s q ▸ h; exact hs.update
  · cases exec_incPair s q ▸ h; exact hs.update
  · cases exec_decPair s q ▸ h; exact hs.update
  · cases h; exact hs.update -- ADD SP,e
  · cases h; exact hs.update -- RLCA
  · cases h; exact hs.update -- RRCA
  · cases h; exact hs.update -- RLA
  · cases h; exact hs.update -- RRA
  · exact readsAlike_of_finish_bind (exec_rot s m (.reg r) ▸ h) (hs.readR8 (.reg r)) fun _ _ ht => ht.update
  · exact readsAlike_of_finish_bind (exec_bit s y k ▸ h) (hs.readR8 k) fun _ _ ht => ht.update
  · exact readsAlike_of_finish_bind (exec_res s y (.reg r) ▸ h) (hs.readR8 (.reg r)) fun _ _ ht => ht.update
  · exact readsAlike_of_finish_bind (exec_set s y (.reg r) ▸ h) (hs.readR8 (.reg r)) fun _ _ ht => ht.update
  · cases h; exact hs.update -- JP nn
  · exact jumpIf_readsAlike hs (exec_jpIf s cc nn ▸ h)
  · cases h; exact hs.update -- JP HL
  · cases h; exact hs.update -- JR e
  · exact jumpRelIf_readsAlike hs (exec_jrIf s cc n ▸ h)
  · exact readsAlike_of_finish_bind (show ret s = .next t from h) hs.pop16 fun _ _ ht => ht.update
  · exact retIf_readsAlike hs (exec_retIf s cc ▸ h)
  · exact readsAlike_of_finish_bind (show reti s = .next t from h) hs.pop16 fun _ _ ht => ht.update
  · cases h; exact hs.update -- NOP
  · exact haltCpu_readsAlike hs h
  · exact stopCpu_readsAlike hs h
  · cases h; exact hs.update -- DI
  · cases h; exact hs.update -- EI

end Sys2Proof.Machine
end

section
/-! SUPPORT. What a bus write leaves of the bytes it does not touch (20_memory.md R73, R83). -/

namespace Sys2Proof.Machine

variable {s t : State} {a b : Word} {v : Byte}

/-! ### The cartridge -/

/-- The bytes of the ROM windows depend on the image and the registers alone. -/
theorem Cartridge.read_rom_congr {c d : Cartridge} (model : Mbc1Model) (hr : d.rom = c.rom) (hm : d.mbc = c.mbc)
    (hb : b.toNat ≤ 0x7FFF) : d.read model b = c.read model b := by
  unfold Cartridge.read
  rw [hr, hm]
  cases c.mbc with
  | noMbc arr => rfl
  | _ => simp only [hb, if_true]

@[simp] theorem Cartridge.ramWrite_mbc (c : Cartridge) (en : Bool) (bank off : Nat) (v : Byte) :
    (c.ramWrite en bank off v).mbc = c.mbc := by
  unfold Cartridge.ramWrite
  split
  · rfl
  · split <;> rfl

theorem writeMbc1_ram (c : Cartridge) (r : Mbc1) {n : Nat} (v : Byte) (h : 0xA000 ≤ n) :
    writeMbc1 c r n v = c.ramWrite r.ramEnabled r.ramBank (n - 0xA000) v := by
  rw [writeMbc1, if_neg (by omega), if_neg (by omega), if_neg (by omega), if_neg (by omega)]

theorem writeMbc2_ram (c : Cartridge) (r : Mbc2) {n : Nat} (v : Byte) (h : 0xA000 ≤ n) :
    writeMbc2 c r n v = if r.ramEnabled then { c with ram := Memory.write c.ram (n % 0x200) v } else c := by
  rw [writeMbc2, if_neg (by omega), if_neg (by omega)]

theorem writeMbc3_ram (now : Nat) (c : Cartridge) (r : Mbc3) {n : Nat} (v : Byte) (h : 0xA000 ≤ n) :
    writeMbc3 now c r n v =
      if r.selectsRtc then
        { c with mbc := .mbc3 (if r.ramEnabled then { r.advance now with live := rtcStore (r.advance now).live r.sel v }
          else r.advance now) }
      else if r.sel ≤ 0x07 then c.ramWrite r.ramEnabled r.sel.toNat (n - 0xA000) v
      else c := by
  rw [writeMbc3, if_neg (by omega), if_neg (by omega), if_neg (by omega), if_neg (by omega)]

theorem writeMbc5_ram (c : Cartridge) (r : Mbc5) {n : Nat} (v : Byte) (h : 0xA000 ≤ n) :
    writeMbc5 c r n v = c.ramWrite r.ramEnabled r.rbank.toNat (n - 0xA000) v := by
  rw [writeMbc5, if_neg (by omega), if_neg (by omega), if_neg (by omega), if_neg (by omega), if_neg (by omega)]

/-- A write to a controller's RAM window changes no byte of its ROM windows (R131, R141, R151, R166). -/
theorem Cartridge.read_write_rom (c : Cartridge) (model : Mbc1Model) (now : Nat) (v : Byte) (hc : ∀ arr, c.mbc ≠ .noMbc arr)
    (ha : 0xA000 ≤ a.toNat) (hb : b.toNat ≤ 0x7FFF) : (c.write now a v).read model b = c.read model b := by
  obtain ⟨rom, ram, mbc⟩ := c
  cases mbc with
  | noMbc arr => exact absurd rfl (hc arr)
  | mbc1 r =>
    simp only [Cartridge.write, writeMbc1_ram _ _ _ ha]
    exact Cartridge.read_rom_congr model (by simp) (by simp) hb
  | mbc2 r =>
    simp only [Cartridge.write, writeMbc2_ram _ _ _ ha]
    split
    · exact Cartridge.read_rom_congr model rfl rfl hb
    · rfl
  | mbc3 r =>
    simp only [Cartridge.write, writeMbc3_ram _ _ _ _ ha]
    split
    · have hbank : (if r.ramEnabled then { r.advance now with live := rtcStore (r.advance now).live r.sel v }
          else r.advance now).bank7 = r.bank7 := by split <;> rfl
      simp only [Cartridge.read, hb, if_true, hbank]
    · split
      · exact Cartridge.read_rom_congr model (by simp) (by simp) hb
      · rfl
  | mbc5 r =>
    simp only [Cartridge.write, writeMbc5_ram _ _ _ ha]
    exact Cartridge.read_rom_congr model (by simp) (by simp) hb

theorem Cartridge.read_write_noMbc {c : Cartridge} {arr : Memory} (hc : c.mbc = .noMbc arr) (model : Mbc1Model) (now : Nat)
    (hne : b ≠ a) : (c.write now a v).read model b = c.read model b := by
  have hn : b.toNat ≠ a.toNat := fun h => hne (BitVec.eq_of_toNat_eq h)
  obtain ⟨rom, ram, mbc⟩ := c
  cases hc
  simp only [Cartridge.write, writeNoMbc]
  split
  · rfl
  · exact readCell_writeCell_ne hn

/-- A write to the cartridge leaves each of its bytes that it does not touch. -/
theorem Cartridge.read_write_of_not_touches (ha : route s.params a = .cart) (h : ¬ Touches s a v b)
    (hb : route s.params b = .cart) {c : Cartridge} (hc : s.cart = some c) (model : Mbc1Model) (now : Nat) :
    (c.write now a v).read model b = c.read model b := by
  simp only [Touches, ha, hc, Option.map_some, not_or, not_and, hb, true_implies] at h
  obtain ⟨hne, hwin⟩ := h
  cases hm : c.mbc with
  | noMbc arr => exact Cartridge.read_write_noMbc hm model now hne
  | _ =>
    simp only [hm, not_true, imp_false, Classical.not_imp, BitVec.le_def, BitVec.ofNat_eq_ofNat, BitVec.reduceToNat] at hwin
    have hb' := route_cart_iff.1 hb
    exact Cartridge.read_write_rom c model now v (by simp [hm]) hwin.1 (by omega)

/-! ### Every byte -/

/-- A write to a register but DMA and NR52 leaves what every route but its own gives. -/
theorem ioWrite_routeRead {r : IoReg} (ha : route s.params a = .io r) (hd : r ≠ .dma) (hn : r ≠ .nr52)
    (h : route s.params b ≠ .io r) :
    (ioWrite s r v).state.routeRead b (route s.params b) = s.routeRead b (route s.params b) := by
  cases hb : route s.params b with
  | io q => exact ioRead_ioWrite_ne ha hb (fun hq => h (hq ▸ hb)) hd hn
  | _ =>
    cases r with
    | dma => exact absurd rfl hd
    | nr52 => exact absurd rfl hn
    | _ => rfl

/-- A write of NR52 leaves all but itself and the audio registers (R476). -/
theorem nr52Write_routeRead (hne : b ≠ 0xFF26) (h : ¬ (0xFF10 ≤ b ∧ b ≤ 0xFF25)) :
    (ioWrite s .nr52 v).state.routeRead b (route s.params b) = s.routeRead b (route s.params b) := by
  cases hb : route s.params b with
  | io q =>
    cases q with
    | nr52 => exact absurd (route_nr52 hb) hne
    | audio j =>
      obtain ⟨rfl, h1, h2⟩ := route_audio hb
      exact absurd ⟨by bv_omega, by bv_omega⟩ h
    | wave j =>
      obtain ⟨rfl, h1, -⟩ := route_wave hb
      exact nr52Write_read_outside s.bus.audio (by omega)
    | _ => rfl
  | _ => rfl

/-- A DMA copy leaves all but DMA, OAM, and for page 1 the overlay's bytes (R470). -/
theorem dmaCopy_peek {page : Byte} (n : Nat) (ho : ¬ (0xFE00 ≤ b ∧ b ≤ 0xFE9F)) (h1 : ¬ (page = 0x01 ∧ b ≤ 0x00FF))
    (s : State) : (dmaCopy page n s).state.peek b = s.peek b := by
  refine dmaCopy_keeps_of_page (P := fun t => t.peek b = s.peek b) (fun t i hi ht => ?_) (fun t i w hi ht => ?_) n s rfl
  · refine (State.afterRead_peek ?_).trans ht
    by_cases hp : page = 0x01
    · have hb : ¬ b ≤ 0x00FF := fun hb => h1 ⟨hp, hb⟩
      exact Or.inr (Or.inl (by bv_omega))
    · exact Or.inl fun he => hp ((dmaSource_eq_0x0100 hi).1 he).1
  · refine Eq.trans (State.peek_eq_of_routeRead (s := t) rfl rfl ?_) ht
    cases hb : route t.params b with
    | oam j => exact absurd (route_eq_oam hb) ho
    | _ => rfl

theorem dmaReg_peek (h : b ≠ 0xFF46) : ({ s with bus := { s.bus with dmaReg := v } } : State).peek b = s.peek b := by
  refine State.peek_eq_of_routeRead rfl rfl ?_
  cases hb : route s.params b with
  | io q =>
    cases q with
    | dma => exact absurd (route_dma.1 hb) h
    | _ => rfl
  | _ => rfl

/-- A write leaves what every address it does not touch reads. -/
theorem State.afterWrite_peek (h : ¬ Touches s a v b) : (s.afterWrite a v).peek b = s.peek b := by
  by_cases hdma : a = 0xFF46
  · simp only [Touches, route_dma.2 hdma, not_or] at h
    obtain ⟨hne, hoam, hpage⟩ := h
    rw [State.afterWrite_io (route_dma.2 hdma)]
    exact (dmaCopy_peek 160 hoam hpage _).trans (dmaReg_peek (hdma ▸ hne))
  · refine State.peek_eq_of_routeRead (s.afterWrite_params a v) (State.afterWrite_bootActive_of_ne hdma) ?_
    cases ha : route s.params a with
    | cart =>
      rw [State.afterWrite_cart ha]
      cases hb : route s.params b with
      | cart =>
        cases hc : s.cart with
        | none => simp [State.routeRead, hc]
        | some c => simpa [State.routeRead, hc] using Cartridge.read_write_of_not_touches ha h hb hc _ _
      | _ => rfl
    | io r =>
      rw [State.afterWrite_io ha]
      cases r with
      | dma => exact absurd (route_dma.1 ha) hdma
      | nr52 =>
        simp only [Touches, ha, not_or] at h
        exact nr52Write_routeRead (route_nr52 ha ▸ h.1) h.2
      | _ => exact ioWrite_routeRead ha nofun nofun (by simpa only [Touches, ha] using h)
    | vram i =>
      rw [State.afterWrite_vram ha]
      cases hb : route s.params b with
      | vram j => exact Memory.read_write_ne fun hj => h (by rw [Touches, ha]; exact hj ▸ hb)
      | _ => rfl
    | oam i =>
      rw [State.afterWrite_oam ha]
      cases hb : route s.params b with
      | oam j => exact Memory.read_write_ne fun hj => h (by rw [Touches, ha]; exact hj ▸ hb)
      | _ => rfl
    | ie =>
      rw [State.afterWrite_ie ha]
      cases hb : route s.params b with
      | ie => exact absurd (by rw [Touches, ha, route_eq_ie ha, route_eq_ie hb]) h
      | _ => rfl
    | flat i =>
      rw [State.afterWrite_flat ha]
      cases hb : route s.params b with
      | flat j => exact Memory.read_write_ne fun hj => h (by rw [Touches, ha]; exact hj ▸ hb)
      | _ => rfl

/-! ### Two accesses in a row -/

/-- A cartridge without a controller is loaded. -/
def State.hasNoMbc (s : State) : Prop := ∃ arr, s.cart.map Cartridge.mbc = some (.noMbc arr)

theorem Cartridge.afterRead_noMbc {c : Cartridge} {arr : Memory} (h : c.mbc = .noMbc arr) (now : Nat) : c.afterRead now a = c := by
  simp only [Cartridge.afterRead, h]

theorem Cartridge.write_noMbc {c : Cartridge} {arr : Memory} (h : c.mbc = .noMbc arr) (now : Nat) :
    ∃ arr', (c.write now a v).mbc = .noMbc arr' := by
  simp only [Cartridge.write, h, writeNoMbc]
  split
  · exact ⟨arr, h⟩
  · exact ⟨_, rfl⟩

theorem State.afterRead_hasNoMbc (a : Word) (h : s.hasNoMbc) : (s.afterRead a).hasNoMbc := by
  obtain ⟨arr, h⟩ := h
  obtain ⟨c, hc, hm⟩ := Option.map_eq_some_iff.1 h
  refine ⟨arr, ?_⟩
  rw [State.afterRead_eq]
  simp only [hc, Option.map_some, Cartridge.afterRead_noMbc hm, ite_self, hm]

theorem State.afterWrite_hasNoMbc (a : Word) (v : Byte) (h : s.hasNoMbc) : (s.afterWrite a v).hasNoMbc := by
  cases ha : route s.params a with
  | cart =>
    obtain ⟨arr, h⟩ := h
    obtain ⟨c, hc, hm⟩ := Option.map_eq_some_iff.1 h
    rw [State.afterWrite_cart ha]
    obtain ⟨arr', hw⟩ := Cartridge.write_noMbc (a := a) (v := v) hm s.wallClock
    exact ⟨arr', by simp [hc, hw]⟩
  | io r =>
    rw [State.afterWrite_io ha]
    cases r with
    | dma =>
      exact dmaCopy_keeps (P := fun t => t.hasNoMbc) (fun _ a ht => State.afterRead_hasNoMbc a ht) (fun _ _ _ ht => ht)
        v 160 _ h
    | _ => exact h
  | vram i => rw [State.afterWrite_vram ha]; exact h
  | oam i => rw [State.afterWrite_oam ha]; exact h
  | ie => rw [State.afterWrite_ie ha]; exact h
  | flat i => rw [State.afterWrite_flat ha]; exact h

/-- The bytes a write touches are the same in a state with the same parameters, NoMBC for NoMBC. -/
theorem touches_of_state (hp : t.params = s.params) (hc : s.hasNoMbc → t.hasNoMbc) (h : Touches t a v b) : Touches s a v b := by
  unfold Touches at h ⊢
  rw [hp] at h
  cases ha : route s.params a with
  | cart =>
    rw [ha] at h
    refine h.imp_right fun ⟨hb, hwin, hm⟩ => ⟨hb, hwin, ?_⟩
    cases hs : s.cart.map Cartridge.mbc with
    | none => trivial
    | some m =>
      cases m with
      | noMbc arr =>
        obtain ⟨arr', ht⟩ := hc ⟨arr, hs⟩
        rw [ht] at hm
        exact hm
      | _ => trivial
  | io r =>
    rw [ha] at h
    cases r <;> exact h
  | _ => rwa [ha] at h

theorem State.afterPush_peek {w : Word} (h1 : ¬ Touches s (s.regs.sp - 1) (hiByte w) b)
    (h2 : ¬ Touches s (s.regs.sp - 2) (loByte w) b) : (s.afterPush w).peek b = s.peek b := by
  have h1' : ¬ Touches (s.setSp (s.regs.sp - 1)) (s.regs.sp - 1) (hiByte w) b := h1
  have h2' : ¬ Touches (((s.setSp (s.regs.sp - 1)).afterWrite (s.regs.sp - 1) (hiByte w)).setSp (s.regs.sp - 2))
      (s.regs.sp - 2) (loByte w) b :=
    fun h => h2 (touches_of_state (by simp) (State.afterWrite_hasNoMbc (s := s.setSp (s.regs.sp - 1)) _ _) h)
  rw [State.afterPush, State.afterWrite_peek h2', State.setSp_peek, State.afterWrite_peek h1', State.setSp_peek]

theorem State.afterModify_peek {w : Byte} (h1 : s.hl ≠ 0x0100 ∨ 0x0100 ≤ b ∨ s.bus.bootActive = false)
    (h2 : ¬ Touches s s.hl w b) : (s.afterModify w).peek b = s.peek b := by
  have h2' : ¬ Touches (s.afterRead s.hl) s.hl w b := fun h => h2 (touches_of_state (by simp) (State.afterRead_hasNoMbc s.hl) h)
  rw [State.afterModify, State.afterWrite_peek h2', State.afterRead_peek h1]

/-- Settles O36: a read keeps all but the overlay it retires, a write all but what it touches; a push is two writes, and an
access at HL a read and a write. -/
theorem storesTouchOnlyTheirBytes : Obligations.StoresTouchOnlyTheirBytes := by
  intro s b
  refine ⟨fun a h => State.afterRead_peek h, fun a v h => State.afterWrite_peek h, fun w h1 h2 => State.afterPush_peek h1 h2,
    fun w h1 h2 => State.afterModify_peek h1 h2, fun a v w => ⟨State.afterPush_regs w, ?_, ?_⟩⟩
  · simp [State.afterModify]
  · simp [State.afterModify, State.afterPush]

end Sys2Proof.Machine
end

section
/-! SUPPORT. What an address reads after a write to it (20_memory.md R76, R77, R83). -/

namespace Sys2Proof.Machine

variable {s : State} {a : Word} {v : Byte}

/-- A byte that is not the cartridge's reads by its route after a write too. -/
theorem State.afterWrite_peek_self (h : route s.params a ≠ .cart) :
    (s.afterWrite a v).peek a = (s.afterWrite a v).routeRead a (route s.params a) := by
  rw [State.peek_of_not_cart (by rwa [State.afterWrite_params]), State.afterWrite_params]

theorem State.afterWrite_peek_io {r : IoReg} (h : route s.params a = .io r) :
    (s.afterWrite a v).peek a = ioRead (ioWrite s r v).state r := by
  rw [State.afterWrite_peek_self (by simp [h]), h, State.afterWrite_io h]
  rfl

theorem State.peek_io {r : IoReg} (h : route s.params a = .io r) : s.peek a = ioRead s r := by
  rw [State.peek_of_not_cart (by simp [h]), h]
  rfl

/-! ### Storage -/

theorem State.vram_readBack {i : Nat} (hw : Memory.wf s.video.vram) (h : route s.params a = .vram i) :
    (s.afterWrite a v).peek a = v := by
  rw [State.afterWrite_peek_self (by simp [h]), h, State.afterWrite_vram h]
  exact (Memory.read_write hw).trans (if_pos rfl)

theorem State.oam_readBack {i : Nat} (hw : Memory.wf s.video.oam) (h : route s.params a = .oam i) :
    (s.afterWrite a v).peek a = v := by
  rw [State.afterWrite_peek_self (by simp [h]), h, State.afterWrite_oam h]
  exact (Memory.read_write hw).trans (if_pos rfl)

theorem State.flat_readBack {i : Nat} (hw : Memory.wf s.bus.flat) (h : route s.params a = .flat i) :
    (s.afterWrite a v).peek a = v := by
  rw [State.afterWrite_peek_self (by simp [h]), h, State.afterWrite_flat h]
  exact (Memory.read_write hw).trans (if_pos rfl)

theorem State.ie_readBack (h : route s.params a = .ie) : (s.afterWrite a v).peek a = v := by
  rw [State.afterWrite_peek_self (by simp [h]), h, State.afterWrite_ie h]
  rfl

/-- NoMBC drops a write below 0x4000 and stores one above (21_cartridge.md R128). -/
theorem State.noMbc_readBack {c : Cartridge} {arr : Memory} (h : route s.params a = .cart) (hc : s.cart = some c)
    (hm : c.mbc = .noMbc arr) (hw : CellsWf (Image.byte c.rom) arr) :
    (s.afterWrite a v).peek a = if 0x4000 ≤ a then v else s.peek a := by
  have hcart : (s.afterWrite a v).cart = some (writeNoMbc c arr a.toNat v) := by
    simp [State.afterWrite_cart h, hc, Cartridge.write, hm]
  split
  · next ha =>
    have ho : overlaid (s.afterWrite a v) a = false := by rw [overlaid, decide_eq_false (by bv_omega), Bool.and_false]
    have hn : ¬ a.toNat ≤ 0x3FFF := by bv_omega
    simp only [State.peek_eq, ho, State.afterWrite_params, h, State.routeRead, hcart, writeNoMbc, hn, if_false]
    exact (arrRead_arrWrite hw).trans (if_pos rfl)
  · next ha =>
    have hn : a.toNat ≤ 0x3FFF := by bv_omega
    rw [State.afterWrite_cart h]
    refine State.peek_eq_of_routeRead rfl rfl ?_
    simp [h, State.routeRead, hc, Cartridge.write, hm, writeNoMbc, hn]

/-! ### The registers with fixed or read-only bits -/

/-- JOYP's top bits are 1 and bits 5 and 4 the select bits; the buttons show in the low nibble alone (60_exceptions.md R460). -/
theorem joypadByte_and {m : Byte} (hm : m &&& 0x0F = 0) (j : Joypad) :
    joypadByte j &&& m = ((0xC0 : Byte) ||| (j.sel.setWidth 8 <<< 4)) &&& m := by
  have hlow : (0x0F &&& ~~~ joypadLines j) &&& m = 0 := by
    rw [BitVec.and_comm 0x0F, BitVec.and_assoc, BitVec.and_comm 0x0F, hm]
    exact BitVec.and_zero
  rw [joypadByte, BitVec.and_or_distrib_right, hlow]
  exact BitVec.or_zero

theorem joypadByte_fixed (j : Joypad) : joypadByte j &&& 0xC0 = 0xC0 := by
  rw [joypadByte_and (by decide)]
  generalize j.sel = sel
  revert sel
  decide

theorem joypadByte_select (j : Joypad) : joypadByte { j with sel := v.extractLsb' 4 2 } &&& 0x30 = v &&& 0x30 := by
  have hsel : ∀ w : Byte, ((0xC0 : Byte) ||| ((w.extractLsb' 4 2).setWidth 8 <<< 4)) &&& 0x30 = w &&& 0x30 := by decide
  exact (joypadByte_and (by decide) _).trans (hsel v)

theorem tac_readBack : (0xF8 : Byte) ||| (v.setWidth 3).setWidth 8 = (v &&& 0x07) ||| 0xF8 := by
  revert v
  decide

theorem ifReg_readBack : (0xE0 : Byte) ||| (v.setWidth 5).setWidth 8 = (v &&& 0x1F) ||| 0xE0 := by
  revert v
  decide

/-- STAT's bits 2 to 0, which no write sets (61_video.md R504). -/
def statStatus (x : Video) : Byte := (if x.coinc then 0x04 else 0) ||| modeBits x.mode

theorem statByte_eq (x : Video) : statByte x = ((0x80 : Byte) ||| (x.statSel.setWidth 8 <<< 3)) ||| statStatus x :=
  BitVec.or_assoc ..

theorem statByte_and (x : Video) : statByte x &&& 0x07 = statStatus x := by
  have hsel : ∀ y : BitVec 4, ((0x80 : Byte) ||| (y.setWidth 8 <<< 3)) &&& 0x07 = 0 := by decide
  have hstatus : statStatus x &&& 0x07 = statStatus x := by
    unfold statStatus
    cases x.coinc <;> cases x.mode <;> rfl
  rw [statByte_eq, BitVec.and_or_distrib_right, hsel, hstatus]
  exact BitVec.zero_or

theorem statByte_readBack (x : Video) :
    statByte { x with statSel := v.extractLsb' 3 4 } = (v &&& 0x78) ||| (statByte x &&& 0x07) ||| 0x80 := by
  have hsel : (0x80 : Byte) ||| ((v.extractLsb' 3 4).setWidth 8 <<< 3) = (v &&& 0x78) ||| 0x80 := by
    revert v
    decide
  calc statByte { x with statSel := v.extractLsb' 3 4 }
    _ = ((0x80 : Byte) ||| ((v.extractLsb' 3 4).setWidth 8 <<< 3)) ||| statStatus x := statByte_eq _
    _ = (v &&& 0x78) ||| statStatus x ||| 0x80 := by rw [hsel, BitVec.or_assoc, BitVec.or_assoc, BitVec.or_comm 0x80]
    _ = _ := by rw [statByte_and]

theorem nr52Write_power (x : Audio) : (nr52Write x v).power = v.getLsbD 7 := by
  unfold nr52Write
  split
  · next h => exact h.symm
  · next h => exact (Bool.eq_false_iff.2 h).symm

theorem nr52_readBack : (if v.getLsbD 7 then 0x80 else 0 : Byte) ||| 0x70 = (v &&& 0x80) ||| 0x70 := by
  revert v
  decide

/-- Power off zeroes the audio registers (60_exceptions.md R476). -/
theorem nr52Write_off {x : Audio} (hw : Memory.wf x.regs) (h : v.getLsbD 7 = false) {j : Nat} (h1 : 0xFF10 ≤ j)
    (h2 : j < 0xFF26) : Memory.read (nr52Write x v).regs j = 0 := by
  have hz : (List.replicate 22 (0 : Byte))[j - 0xFF10]? = some 0 := by rw [List.getElem?_replicate, if_pos (by omega)]
  unfold nr52Write
  generalize List.replicate 22 (0 : Byte) = zeros at hz ⊢
  rw [h, if_neg (by decide)]
  exact (Memory.read_writeAll hw).trans (by rw [if_pos h1, hz]; rfl)

theorem audioWrite_readBack {x : Audio} (hw : Memory.wf x.regs) (i : Nat) :
    Memory.read (audioWrite x i v).regs i = if x.power then v else Memory.read x.regs i := by
  unfold audioWrite
  split
  · exact (Memory.read_write hw).trans (if_pos rfl)
  · rfl

theorem dmaReg_readBack (v : Byte) : (ioWrite s .dma v).state.bus.dmaReg = v :=
  dmaCopy_keeps (P := fun t => t.bus.dmaReg = v) (fun t a h => by simpa using h) (fun _ _ _ h => h) v 160 _ rfl

/-- Settles O35: storage gives back the byte, and a register its writable bits among those that read fixed. -/
theorem writeThenRead : Obligations.WriteThenRead := by
  rintro s a v ⟨hflat, haudio, hvram, hoam, -, -, hcart⟩ after
  cases hr : route s.params a with
  | vram i => exact State.vram_readBack hvram hr
  | oam i => exact State.oam_readBack hoam hr
  | flat i => exact State.flat_readBack hflat hr
  | ie => exact State.ie_readBack hr
  | cart =>
    intro c arr hc hm
    have hwf := (hcart c hc).2
    rw [hm] at hwf
    exact State.noMbc_readBack hr hc hm hwf
  | io r =>
    have hafter : after = ioRead (ioWrite s r v).state r := State.afterWrite_peek_io hr
    have hbefore := State.peek_io hr
    cases r with
    | joyp => exact hafter ▸ ⟨joypadByte_select _, joypadByte_fixed _⟩
    | div => exact ⟨hafter, by rw [State.afterWrite_io hr]; rfl⟩
    | tac => exact hafter.trans tac_readBack
    | ifReg => exact hafter.trans ifReg_readBack
    | audio i => exact hafter.trans (hbefore ▸ audioWrite_readBack haudio i)
    | wave i => exact hafter.trans ((Memory.read_write haudio).trans (if_pos rfl))
    | nr52 =>
      refine ⟨hafter.trans ?_, fun h b hb hb' => ?_⟩
      · simp only [ioRead, ioWrite, Access.state_ok, nr52Write_power]
        exact nr52_readBack
      · have hb : 0xFF10 ≤ b.toNat ∧ b.toNat < 0xFF26 := ⟨by bv_omega, by bv_omega⟩
        have hroute : route (s.afterWrite a v).params b = .io (.audio b.toNat) := by
          rw [route_flat_or_io (by omega), ioReg?_audio hb]
          rfl
        rw [State.peek_io hroute, State.afterWrite_io hr]
        exact nr52Write_off haudio h hb.1 hb.2
    | stat => exact hafter.trans (hbefore ▸ statByte_readBack _)
    | ly => exact hafter.trans hbefore.symm
    | dma => exact hafter.trans (dmaReg_readBack v)
    | _ => exact hafter

end Sys2Proof.Machine
end

section
/-! SUPPORT. What a write stores in the cartridge's registers as arithmetic on its value, and which meaning each variant's accesses
have (21_cartridge.md R126, R131, R141, R151, R166). -/

namespace Sys2Proof.Machine

variable {c : Cartridge} {now : Nat} {a : Word} {v : Byte}

theorem enablesRam_eq (v : Byte) : enablesRam v = decide (v.toNat % 16 = 10) := by
  have hand : (v &&& 0x0F).toNat = v.toNat % 16 := by
    rw [BitVec.toNat_and]
    exact Nat.and_two_pow_sub_one_eq_mod v.toNat 4
  rw [enablesRam, Bool.eq_iff_iff, beq_iff_eq, decide_eq_true_iff, ← BitVec.toNat_inj, hand]
  rfl

/-- The bank registers that count a 0 written as 1: the check is on the bits that are stored. -/
theorem bankStored_eq {k : Nat} (v : Byte) :
    (if v.setWidth k = (0 : BitVec k) then 1 else v.setWidth k) = if v.toNat % 2 ^ k = 0 then 1 else BitVec.ofNat k v.toNat := by
  have hzero : v.setWidth k = (0 : BitVec k) ↔ v.toNat % 2 ^ k = 0 := by
    rw [← BitVec.toNat_inj, BitVec.toNat_setWidth]
    simp
  simp only [hzero, BitVec.ofNat_toNat]

theorem Cartridge.write_mbc1 {r : Mbc1} (h : c.mbc = .mbc1 r) : c.write now a v = writeMbc1 c r a.toNat v := by
  simp only [Cartridge.write, h]

theorem Cartridge.write_mbc2 {r : Mbc2} (h : c.mbc = .mbc2 r) : c.write now a v = writeMbc2 c r a.toNat v := by
  simp only [Cartridge.write, h]

theorem Cartridge.write_mbc3 {r : Mbc3} (h : c.mbc = .mbc3 r) : c.write now a v = writeMbc3 now c r a.toNat v := by
  simp only [Cartridge.write, h]

theorem Cartridge.write_mbc5 {r : Mbc5} (h : c.mbc = .mbc5 r) : c.write now a v = writeMbc5 c r a.toNat v := by
  simp only [Cartridge.write, h]

/-- Every controller shows bank 0 at 0x0000 to 0x3FFF, MBC1 of the hardware model in mode 1 excepted (R132, R142, R152, R167). -/
theorem Cartridge.read_fixedWindow (c : Cartridge) (model : Mbc1Model) (h : a.toNat < 0x4000) :
    c.read model a = match c.mbc with
      | .noMbc arr => arrRead c.rom arr a.toNat
      | .mbc1 r => romByte c.rom (r.fixedBank model) a.toNat
      | .mbc2 _ | .mbc3 _ | .mbc5 _ => romByte c.rom 0 a.toNat := by
  have hle : a.toNat ≤ 0x3FFF := by omega
  rw [Cartridge.read]
  cases c.mbc <;> simp only [hle, if_true]

/-- The bank each variant shows at 0x4000 to 0x7FFF. -/
theorem Cartridge.read_switchWindow (c : Cartridge) (model : Mbc1Model) (h : 0x4000 ≤ a.toNat ∧ a.toNat < 0x8000) :
    c.read model a = match c.mbc with
      | .noMbc arr => arrRead c.rom arr a.toNat
      | .mbc1 r => romByte c.rom (r.switchBank model) (a.toNat - 0x4000)
      | .mbc2 r => romByte c.rom r.bank4.toNat (a.toNat - 0x4000)
      | .mbc3 r => romByte c.rom r.bank7.toNat (a.toNat - 0x4000)
      | .mbc5 r => romByte c.rom r.switchBank (a.toNat - 0x4000) := by
  have hgt : ¬ a.toNat ≤ 0x3FFF := by omega
  have hle : a.toNat ≤ 0x7FFF := by omega
  rw [Cartridge.read]
  cases c.mbc <;> simp only [hgt, hle, if_true, if_false]

/-- What each variant gives at 0xA000 to 0xBFFF. -/
theorem Cartridge.read_ramWindow (c : Cartridge) (model : Mbc1Model) (h : 0xA000 ≤ a.toNat) :
    c.read model a = match c.mbc with
      | .noMbc arr => arrRead c.rom arr a.toNat
      | .mbc1 r => c.ramRead r.ramEnabled r.ramBank (a.toNat - 0xA000)
      | .mbc2 r => if r.ramEnabled then Memory.read c.ram (a.toNat % 0x200) ||| 0xF0 else 0xFF
      | .mbc3 r => if !r.ramEnabled then 0xFF else if r.sel ≤ 0x07 then c.ramRead true r.sel.toNat (a.toNat - 0xA000)
          else rtcLatchedByte r.latched r.sel
      | .mbc5 r => c.ramRead r.ramEnabled r.rbank.toNat (a.toNat - 0xA000) := by
  have hgt : ¬ a.toNat ≤ 0x3FFF ∧ ¬ a.toNat ≤ 0x7FFF := by omega
  rw [Cartridge.read]
  cases c.mbc <;> simp only [hgt, if_false]

end Sys2Proof.Machine
end

section
/-! SUPPORT. NoMBC's array and MBC2's registers and windows (21_cartridge.md R128, R141, R142). -/

namespace Sys2Proof.Machine

variable {c : Cartridge} {n : Nat} {v : Byte}

/-! ### NoMBC (R128) -/

theorem Cartridge.read_noMbc {arr : Memory} (h : c.mbc = .noMbc arr) (model : Mbc1Model) (a : Word) :
    c.read model a = arrRead c.rom arr a.toNat := by
  simp only [Cartridge.read, h]

theorem Cartridge.write_noMbc_rom {arr : Memory} (h : c.mbc = .noMbc arr) (now : Nat) {a : Word} (ha : a < 0x4000) :
    c.write now a v = c := by
  have hn : a.toNat ≤ 0x3FFF := by bv_omega
  simp only [Cartridge.write, h, writeNoMbc, hn, if_true]

theorem Cartridge.read_write_noMbc_self {arr : Memory} (h : c.mbc = .noMbc arr) (hw : CartWf c) (model : Mbc1Model) (now : Nat)
    {a : Word} (ha : 0x4000 ≤ a) : (c.write now a v).read model a = v := by
  have hn : ¬ a.toNat ≤ 0x3FFF := by bv_omega
  have harr : CellsWf (Image.byte c.rom) arr := by simpa only [h] using hw.2
  simp only [Cartridge.write, h, writeNoMbc, hn, if_false, Cartridge.read]
  exact (arrRead_arrWrite harr).trans (if_pos rfl)

/-! ### MBC2 (R141, R142) -/

theorem writeMbc2_ramEnable (c : Cartridge) (r : Mbc2) (v : Byte) (h : n < 0x4000 ∧ n / 256 % 2 = 0) :
    writeMbc2 c r n v = { c with mbc := .mbc2 { r with ramEnabled := decide (v.toNat % 16 = 10) } } := by
  have hbit : n.testBit 8 = false := by simp [Nat.testBit_eq_decide_div_mod_eq, h.2]
  rw [writeMbc2, if_pos (by omega), hbit, if_neg (by decide), enablesRam_eq]

theorem writeMbc2_bank4 (c : Cartridge) (r : Mbc2) (v : Byte) (h : n < 0x4000 ∧ n / 256 % 2 = 1) :
    writeMbc2 c r n v =
      { c with mbc := .mbc2 { r with bank4 := if v.toNat % 16 = 0 then 1 else BitVec.ofNat 4 v.toNat } } := by
  have hbit : n.testBit 8 = true := by simp [Nat.testBit_eq_decide_div_mod_eq, h.2]
  rw [writeMbc2, if_pos (by omega), hbit, if_pos rfl, bankStored_eq]
  rfl

theorem writeMbc2_switchWindow (c : Cartridge) (r : Mbc2) (v : Byte) (h : 0x4000 ≤ n ∧ n < 0x8000) : writeMbc2 c r n v = c := by
  rw [writeMbc2, if_neg (by omega), if_pos (by omega)]

/-- Settles O43: NoMBC's array reads back what it stores; MBC2's write selects its register by bit 8 of the address. -/
theorem noMbcAndMbc2 : Obligations.NoMbcAndMbc2 := by
  refine ⟨fun c arr model now a b v hm hw => ⟨Cartridge.read_noMbc hm model a, Cartridge.write_noMbc_rom hm now,
      fun ha => ?_, rfl, by simp only [Cartridge.getRam, hm]⟩, fun c r model now a v hm => ?_⟩
  · by_cases hab : b = a
    · rw [if_pos hab, hab, Cartridge.read_write_noMbc_self hm hw model now ha]
    · rw [if_neg hab, Cartridge.read_write_noMbc hm model now hab]
  · have hwrite : c.write now a v = writeMbc2 c r a.toNat v := Cartridge.write_mbc2 hm
    exact ⟨fun h => hwrite.trans (writeMbc2_ramEnable c r v h), fun h => hwrite.trans (writeMbc2_bank4 c r v h),
      fun h => hwrite.trans (writeMbc2_switchWindow c r v h), fun h => hwrite.trans (writeMbc2_ram c r v h.1),
      fun h => (Cartridge.read_fixedWindow c model h).trans (by rw [hm]),
      fun h => (Cartridge.read_switchWindow c model h).trans (by rw [hm]),
      fun h => (Cartridge.read_ramWindow c model h.1).trans (by rw [hm])⟩

end Sys2Proof.Machine
end

section
/-! SUPPORT. The byte of a ROM bank, and MBC1's registers and windows (21_cartridge.md R123, R125, R131, R132). -/

namespace Sys2Proof.Machine

variable {n : Nat}

theorem writeMbc1_ramEnable (c : Cartridge) (r : Mbc1) (v : Byte) (h : n < 0x2000) :
    writeMbc1 c r n v = { c with mbc := .mbc1 { r with ramEnabled := decide (v.toNat % 16 = 10) } } := by
  rw [writeMbc1, if_pos (by omega), enablesRam_eq]

theorem writeMbc1_lo5 (c : Cartridge) (r : Mbc1) (v : Byte) (h : 0x2000 ≤ n ∧ n < 0x4000) :
    writeMbc1 c r n v =
      { c with mbc := .mbc1 { r with lo5 := if v.toNat % 32 = 0 then 1 else BitVec.ofNat 5 v.toNat } } := by
  rw [writeMbc1, if_neg (by omega), if_pos (by omega), bankStored_eq]
  rfl

theorem writeMbc1_hi2 (c : Cartridge) (r : Mbc1) (v : Byte) (h : 0x4000 ≤ n ∧ n < 0x6000) :
    writeMbc1 c r n v = { c with mbc := .mbc1 { r with hi2 := BitVec.ofNat 2 v.toNat } } := by
  rw [writeMbc1, if_neg (by omega), if_neg (by omega), if_pos (by omega), BitVec.ofNat_toNat]

theorem writeMbc1_mode (c : Cartridge) (r : Mbc1) (v : Byte) (h : 0x6000 ≤ n ∧ n < 0x8000) :
    writeMbc1 c r n v = { c with mbc := .mbc1 { r with mode := decide (v.toNat % 2 = 1) } } := by
  rw [writeMbc1, if_neg (by omega), if_neg (by omega), if_neg (by omega), if_pos (by omega), BitVec.getLsbD,
    Nat.testBit_zero]

/-- Settles O44: each register has its window, and the two models differ in `Mbc1.fixedBank` and `Mbc1.switchBank` alone. -/
theorem mbc1Banks : Obligations.Mbc1Banks := by
  refine ⟨fun rom bank off => ⟨rfl, rfl⟩, fun c r model now a v hm => ?_⟩
  have hwrite : c.write now a v = writeMbc1 c r a.toNat v := Cartridge.write_mbc1 hm
  exact ⟨fun h => hwrite.trans (writeMbc1_ramEnable c r v h), fun h => hwrite.trans (writeMbc1_lo5 c r v h),
    fun h => hwrite.trans (writeMbc1_hi2 c r v h), fun h => hwrite.trans (writeMbc1_mode c r v h),
    fun h => hwrite.trans (writeMbc1_ram c r v h.1),
    fun h => ⟨(Cartridge.read_fixedWindow c .hardware h).trans (by rw [hm]; rfl),
      (Cartridge.read_fixedWindow c .legacy h).trans (by rw [hm]; rfl)⟩,
    fun h => ⟨(Cartridge.read_switchWindow c .hardware h).trans (by rw [hm]; rfl),
      (Cartridge.read_switchWindow c .legacy h).trans (by rw [hm]; rfl)⟩,
    fun h => (Cartridge.read_ramWindow c model h.1).trans (by rw [hm]; rfl)⟩

end Sys2Proof.Machine
end

section
/-! SUPPORT. MBC3's registers, its RAM and clock windows, and the latch (21_cartridge.md R151 to R154). -/

namespace Sys2Proof.Machine

variable {c : Cartridge} {r : Mbc3} {now n : Nat} {a : Word}

/-! ### The clock's registers (R151, R154) -/

theorem Mbc3.selectsRtc_iff : r.selectsRtc = true ↔ 0x08 ≤ r.sel.toNat ∧ r.sel.toNat ≤ 0x0C := by
  simp [Mbc3.selectsRtc, BitVec.le_def]

theorem sel_le_seven_iff : r.sel ≤ 0x07 ↔ r.sel.toNat < 8 := by
  rw [BitVec.le_def]
  exact Nat.lt_succ_iff.symm

theorem setWidth_eq_ofNat_mod (k : Nat) (v : Byte) : v.setWidth k = BitVec.ofNat k (v.toNat % 2 ^ k) := by
  apply BitVec.eq_of_toNat_eq
  rw [BitVec.toNat_setWidth, BitVec.toNat_ofNat, Nat.mod_mod]

theorem rtcDay_eq (x : Rtc) : rtcDay x = 256 * x.dayHigh.toNat + x.dl.toNat := by
  rw [rtcDay]
  cases x.dayHigh <;> rfl

theorem rtcDayHighByte_eq (x : Rtc) :
    rtcDayHighByte x = BitVec.ofNat 8 (x.dayHigh.toNat + 64 * x.halt.toNat + 128 * x.carry.toNat) := by
  rw [rtcDayHighByte]
  generalize x.dayHigh = d, x.halt = h, x.carry = k
  revert d h k
  decide

/-- A write to a clock register stores the bits of its mask (R154). -/
theorem rtcStore_masked (x : Rtc) (v : Byte) :
    rtcStore x 0x08 v = { x with s := BitVec.ofNat 6 (v.toNat % 0x40) } ∧
    rtcStore x 0x09 v = { x with m := BitVec.ofNat 6 (v.toNat % 0x40) } ∧
    rtcStore x 0x0A v = { x with h := BitVec.ofNat 5 (v.toNat % 0x20) } ∧
    rtcStore x 0x0B v = { x with dl := v } ∧
    rtcStore x 0x0C v = { x with dayHigh := v.getLsbD 0, halt := v.getLsbD 6, carry := v.getLsbD 7 } := by
  have h6 : BitVec.ofNat 6 (v.toNat % 0x40) = v.setWidth 6 := (setWidth_eq_ofNat_mod 6 v).symm
  have h5 : BitVec.ofNat 5 (v.toNat % 0x20) = v.setWidth 5 := (setWidth_eq_ofNat_mod 5 v).symm
  rw [h6, h5]
  exact ⟨rfl, rfl, rfl, rfl, rfl⟩

/-! ### Writes (R151, R153) -/

theorem Mbc3.latchStep_eq (r : Mbc3) (now : Nat) (v : Byte) :
    r.latchStep now v =
      if r.latchArmed = true ∧ v = 1 then { r.advance now with latched := (r.advance now).live, latchArmed := false }
      else { r with latchArmed := decide (v = 0) } := by
  simp only [Mbc3.latchStep, Bool.and_eq_true, beq_iff_eq]
  rfl

theorem writeMbc3_ramEnable (now : Nat) (c : Cartridge) (r : Mbc3) (v : Byte) (h : n < 0x2000) :
    writeMbc3 now c r n v = { c with mbc := .mbc3 { r with ramEnabled := decide (v.toNat % 16 = 10) } } := by
  rw [writeMbc3, if_pos (by omega), enablesRam_eq]

theorem writeMbc3_bank7 (now : Nat) (c : Cartridge) (r : Mbc3) (v : Byte) (h : 0x2000 ≤ n ∧ n < 0x4000) :
    writeMbc3 now c r n v =
      { c with mbc := .mbc3 { r with bank7 := if v.toNat % 128 = 0 then 1 else BitVec.ofNat 7 v.toNat } } := by
  rw [writeMbc3, if_neg (by omega), if_pos (by omega), bankStored_eq]
  rfl

theorem writeMbc3_sel (now : Nat) (c : Cartridge) (r : Mbc3) (v : Byte) (h : 0x4000 ≤ n ∧ n < 0x6000) :
    writeMbc3 now c r n v = { c with mbc := .mbc3 { r with sel := v } } := by
  rw [writeMbc3, if_neg (by omega), if_neg (by omega), if_pos (by omega)]

theorem writeMbc3_latch (now : Nat) (c : Cartridge) (r : Mbc3) (v : Byte) (h : 0x6000 ≤ n ∧ n < 0x8000) :
    writeMbc3 now c r n v = { c with mbc := .mbc3 (r.latchStep now v) } := by
  rw [writeMbc3, if_neg (by omega), if_neg (by omega), if_neg (by omega), if_pos (by omega)]

theorem writeMbc3_clock (now : Nat) (c : Cartridge) (v : Byte) (h : 0xA000 ≤ n) (hs : r.selectsRtc = true) :
    writeMbc3 now c r n v =
      { c with mbc := .mbc3 { r.advance now with
          live := if r.ramEnabled then rtcStore (r.advance now).live r.sel v else (r.advance now).live } } := by
  rw [writeMbc3_ram now c r v h, if_pos hs]
  cases r.ramEnabled <;> rfl

theorem writeMbc3_bankedRam (now : Nat) (c : Cartridge) (v : Byte) (h : 0xA000 ≤ n) (hs : ¬ r.selectsRtc = true) :
    writeMbc3 now c r n v = if r.sel.toNat < 8 then c.ramWrite r.ramEnabled r.sel.toNat (n - 0xA000) v else c := by
  rw [writeMbc3_ram now c r v h, if_neg hs]
  simp only [sel_le_seven_iff]

/-! ### Reads (R152) -/

/-- The latched clock: a register of it for the selectors 0x08 to 0x0C, 0xFF beyond (R152, R154). -/
theorem rtcLatchedByte_eq (x : Rtc) (sel : Byte) :
    rtcLatchedByte x sel =
      if sel = 0x08 then BitVec.ofNat 8 x.s.toNat else if sel = 0x09 then BitVec.ofNat 8 x.m.toNat
      else if sel = 0x0A then BitVec.ofNat 8 x.h.toNat else if sel = 0x0B then x.dl
      else if sel = 0x0C then BitVec.ofNat 8 (x.dayHigh.toNat + 64 * x.halt.toNat + 128 * x.carry.toNat) else 0xFF := by
  simp only [rtcLatchedByte, rtcDayHighByte_eq, BitVec.ofNat_toNat]

theorem Cartridge.read_mbc3_ramWindow (hm : c.mbc = .mbc3 r) (model : Mbc1Model) (h : 0xA000 ≤ a.toNat) :
    c.read model a = if r.ramEnabled = false then 0xFF
      else if r.sel.toNat < 8 then c.ramRead true r.sel.toNat (a.toNat - 0xA000) else rtcLatchedByte r.latched r.sel := by
  rw [Cartridge.read_ramWindow c model h, hm]
  simp only [Bool.not_eq_true', sel_le_seven_iff]

/-- A read advances the clock where it reads the clock, and changes nothing elsewhere. -/
theorem Cartridge.afterRead_mbc3 (hm : c.mbc = .mbc3 r) :
    c.afterRead now a =
      if 0xA000 ≤ a.toNat ∧ r.selectsRtc = true then { c with mbc := .mbc3 (r.advance now) } else c := by
  simp only [Cartridge.afterRead, hm, Bool.and_eq_true, decide_eq_true_eq]

theorem Cartridge.afterRead_mbc3_rom (hm : c.mbc = .mbc3 r) (h : a.toNat < 0x8000) : c.afterRead now a = c := by
  rw [Cartridge.afterRead_mbc3 hm, if_neg (by omega)]

/-- Settles O45: each register has its window; the window at 0xA000 is RAM or the clock, as `Mbc3.selectsRtc` says. -/
theorem mbc3BanksAndLatch : Obligations.Mbc3BanksAndLatch := by
  refine ⟨fun x v => ?_, fun c r model now a v hm => ?_⟩
  · obtain ⟨hs, hmin, hh, hdl, hdh⟩ := rtcStore_masked x v
    exact ⟨hs, hmin, hh, hdl, hdh, rtcDay_eq x⟩
  · have hwrite : c.write now a v = writeMbc3 now c r a.toNat v := Cartridge.write_mbc3 hm
    exact ⟨fun h => hwrite.trans (writeMbc3_ramEnable now c r v h), fun h => hwrite.trans (writeMbc3_bank7 now c r v h),
      fun h => hwrite.trans (writeMbc3_sel now c r v h),
      fun h => hwrite.trans ((writeMbc3_latch now c r v h).trans (by rw [Mbc3.latchStep_eq])),
      fun h hs => hwrite.trans (writeMbc3_clock now c v h.1 (Mbc3.selectsRtc_iff.2 hs)),
      fun h hs => hwrite.trans (writeMbc3_bankedRam now c v h.1 (mt Mbc3.selectsRtc_iff.1 hs)),
      fun h => ⟨(Cartridge.read_fixedWindow c model h).trans (by rw [hm]), Cartridge.afterRead_mbc3_rom hm (by omega)⟩,
      fun h => ⟨(Cartridge.read_switchWindow c model h).trans (by rw [hm]), Cartridge.afterRead_mbc3_rom hm h.2⟩,
      fun h => ⟨(Cartridge.read_mbc3_ramWindow hm model h.1).trans (by rw [rtcLatchedByte_eq]),
        fun hs => (Cartridge.afterRead_mbc3 hm).trans (if_pos ⟨h.1, Mbc3.selectsRtc_iff.2 hs⟩),
        fun hs => (Cartridge.afterRead_mbc3 hm).trans (if_neg fun hr => hs (Mbc3.selectsRtc_iff.1 hr.2))⟩⟩

end Sys2Proof.Machine
end

section
/-! SUPPORT. MBC5's registers and windows (21_cartridge.md R165 to R167). -/

namespace Sys2Proof.Machine

variable {n : Nat}

theorem isRumbleType_iff (rom : Image) :
    isRumbleType rom = true ↔
      (rom.byte 0x147).toNat = 0x1C ∨ (rom.byte 0x147).toNat = 0x1D ∨ (rom.byte 0x147).toNat = 0x1E := by
  simp only [isRumbleType, decide_eq_true_iff, List.mem_cons, List.not_mem_nil, or_false, ← BitVec.toNat_inj]
  rfl

/-- The low byte of the bank is replaced, bit 8 kept (R166). -/
theorem bank9_setLow (b : BitVec 9) (v : Byte) :
    (b &&& 0x100) ||| v.setWidth 9 = BitVec.ofNat 9 (b.toNat / 256 * 256 + v.toNat) := by
  have hkept : b.toNat &&& 256 = 2 ^ 8 * (b.toNat / 256) := by
    have hbit : (b.toNat.testBit 8).toNat = b.toNat / 256 % 2 := Nat.toNat_testBit b.toNat 8
    have hand : b.toNat &&& 256 = (b.toNat.testBit 8).toNat * 256 := Nat.and_two_pow b.toNat 8
    omega
  have hv : v.toNat < 2 ^ 8 := v.isLt
  apply BitVec.eq_of_toNat_eq
  calc ((b &&& 0x100) ||| v.setWidth 9).toNat
      = (b.toNat &&& 256) ||| v.toNat % 2 ^ 9 := by simp [BitVec.toNat_or, BitVec.toNat_and]
    _ = 2 ^ 8 * (b.toNat / 256) + v.toNat := by
      rw [hkept, Nat.mod_eq_of_lt (by omega), Nat.two_pow_add_eq_or_of_lt hv]
    _ = (BitVec.ofNat 9 (b.toNat / 256 * 256 + v.toNat)).toNat := by
      rw [BitVec.toNat_ofNat]
      omega

/-- Bit 8 of the bank is replaced, the low byte kept (R166). -/
theorem bank9_setHigh (b : BitVec 9) (v : Byte) :
    ((v.setWidth 9 &&& 0x001) <<< 8) ||| (b &&& 0x0FF) = BitVec.ofNat 9 (v.toNat % 2 * 256 + b.toNat % 256) := by
  have hlow : b.toNat % 256 < 2 ^ 8 := Nat.mod_lt _ (by decide)
  have hset : (v.toNat &&& 1) <<< 8 = 2 ^ 8 * (v.toNat % 2) := by
    rw [Nat.and_one_is_mod, Nat.shiftLeft_eq, Nat.mul_comm]
  have hkept : b.toNat &&& 255 = b.toNat % 256 := Nat.and_two_pow_sub_one_eq_mod b.toNat 8
  apply BitVec.eq_of_toNat_eq
  calc (((v.setWidth 9 &&& 0x001) <<< 8) ||| (b &&& 0x0FF)).toNat
      = (v.toNat &&& 1) <<< 8 % 2 ^ 9 ||| (b.toNat &&& 255) := by
          simp [BitVec.toNat_or, BitVec.toNat_and]
    _ = 2 ^ 8 * (v.toNat % 2) + b.toNat % 256 := by
      rw [hset, hkept, Nat.mod_eq_of_lt (by omega), Nat.two_pow_add_eq_or_of_lt hlow]
    _ = (BitVec.ofNat 9 (v.toNat % 2 * 256 + b.toNat % 256)).toNat := by
      rw [BitVec.toNat_ofNat]
      omega

/-- A rumble cartridge has no bit 3 in its RAM bank (R166). -/
theorem rbank_masked (v : Byte) : v.setWidth 4 &&& 0x7 = BitVec.ofNat 4 (v.toNat % 8) := by
  have hmask : v.toNat % 16 &&& 7 = v.toNat % 16 % 8 := Nat.and_two_pow_sub_one_eq_mod _ 3
  apply BitVec.eq_of_toNat_eq
  rw [BitVec.toNat_and, BitVec.toNat_setWidth, BitVec.toNat_ofNat]
  exact hmask.trans (by omega)

theorem writeMbc5_ramEnable (c : Cartridge) (r : Mbc5) (v : Byte) (h : n < 0x2000) :
    writeMbc5 c r n v = { c with mbc := .mbc5 { r with ramEnabled := decide (v.toNat % 16 = 10) } } := by
  rw [writeMbc5, if_pos (by omega), enablesRam_eq]

theorem writeMbc5_bankLow (c : Cartridge) (r : Mbc5) (v : Byte) (h : 0x2000 ≤ n ∧ n < 0x3000) :
    writeMbc5 c r n v =
      { c with mbc := .mbc5 { r with bank9 := BitVec.ofNat 9 (r.bank9.toNat / 256 * 256 + v.toNat) } } := by
  rw [writeMbc5, if_neg (by omega), if_pos (by omega), bank9_setLow]

theorem writeMbc5_bankHigh (c : Cartridge) (r : Mbc5) (v : Byte) (h : 0x3000 ≤ n ∧ n < 0x4000) :
    writeMbc5 c r n v =
      { c with mbc := .mbc5 { r with bank9 := BitVec.ofNat 9 (v.toNat % 2 * 256 + r.bank9.toNat % 256) } } := by
  rw [writeMbc5, if_neg (by omega), if_neg (by omega), if_pos (by omega), bank9_setHigh]

theorem writeMbc5_rumble {c : Cartridge} (r : Mbc5) (v : Byte) (h : 0x4000 ≤ n ∧ n < 0x6000)
    (hr : isRumbleType c.rom = true) :
    writeMbc5 c r n v =
      { c with mbc := .mbc5 { r with rumble := v.getLsbD 3, rbank := BitVec.ofNat 4 (v.toNat % 8) } } := by
  rw [writeMbc5, if_neg (by omega), if_neg (by omega), if_neg (by omega), if_pos (by omega), if_pos hr, rbank_masked]

theorem writeMbc5_rbank {c : Cartridge} (r : Mbc5) (v : Byte) (h : 0x4000 ≤ n ∧ n < 0x6000)
    (hr : ¬ isRumbleType c.rom = true) :
    writeMbc5 c r n v = { c with mbc := .mbc5 { r with rbank := BitVec.ofNat 4 v.toNat } } := by
  rw [writeMbc5, if_neg (by omega), if_neg (by omega), if_neg (by omega), if_pos (by omega), if_neg hr, BitVec.ofNat_toNat]

theorem writeMbc5_unused (c : Cartridge) (r : Mbc5) (v : Byte) (h : 0x6000 ≤ n ∧ n < 0x8000) : writeMbc5 c r n v = c := by
  rw [writeMbc5, if_neg (by omega), if_neg (by omega), if_neg (by omega), if_neg (by omega), if_pos (by omega)]

theorem Mbc5.switchBank_eq (r : Mbc5) : r.switchBank = if r.bank9.toNat = 0 then 1 else r.bank9.toNat := by
  have hzero : r.bank9 = 0 ↔ r.bank9.toNat = 0 := BitVec.toNat_inj.symm
  simp only [Mbc5.switchBank, hzero]

/-- Settles O46: the bank's low byte and bit 8 have a window each, and the rumble types take bit 3 of the RAM bank for the motor. -/
theorem mbc5Banks : Obligations.Mbc5Banks := by
  intro c r model now a v hm n rumbles
  have hwrite : c.write now a v = writeMbc5 c r a.toNat v := Cartridge.write_mbc5 hm
  exact ⟨fun h => hwrite.trans (writeMbc5_ramEnable c r v h), fun h => hwrite.trans (writeMbc5_bankLow c r v h),
    fun h => hwrite.trans (writeMbc5_bankHigh c r v h),
    fun h hr => hwrite.trans (writeMbc5_rumble r v h ((isRumbleType_iff c.rom).2 hr)),
    fun h hr => hwrite.trans (writeMbc5_rbank r v h (mt (isRumbleType_iff c.rom).1 hr)),
    fun h => hwrite.trans (writeMbc5_unused c r v h), fun h => hwrite.trans (writeMbc5_ram c r v h.1),
    fun h => (Cartridge.read_fixedWindow c model h).trans (by rw [hm]),
    fun h => (Cartridge.read_switchWindow c model h).trans (by rw [hm, ← Mbc5.switchBank_eq]),
    fun h => (Cartridge.read_ramWindow c model h.1).trans (by rw [hm])⟩

end Sys2Proof.Machine
end

section
/-! SUPPORT. The cartridge's RAM: its size and banks, the gate of the RAM-enable latch, and what a read gives after a write
(21_cartridge.md R124, R126, R127). -/

namespace Sys2Proof.Machine

variable {c : Cartridge} {a : Word} {v : Byte}

/-! ### Size, reads and writes (R124, R127) -/

theorem ramSizeOfCode_eq (code : Byte) :
    ramSizeOfCode code =
      if code.toNat = 1 then 2 * 1024 else if code.toNat = 2 then 8 * 1024 else if code.toNat = 3 then 32 * 1024
      else if code.toNat = 4 then 128 * 1024 else if code.toNat = 5 then 64 * 1024 else 0 := by
  simp only [ramSizeOfCode, ← BitVec.toNat_inj]
  rfl

theorem Cartridge.ramRead_enabled (c : Cartridge) (bank off : Nat) :
    c.ramRead true bank off =
      if 0 < c.ramSize ∧ c.ramIndex bank off < c.ramSize then Memory.read c.ram (c.ramIndex bank off) else 0xFF := by
  by_cases hin : c.ramIndex bank off < c.ramSize
  · have hsize : c.ramSize ≠ 0 := by omega
    simp [Cartridge.ramRead, hin, hsize, Nat.pos_of_ne_zero hsize]
  · simp [Cartridge.ramRead, hin]

theorem Cartridge.ramWrite_inside {bank off : Nat} (h : c.ramIndex bank off < c.ramSize) :
    c.ramWrite true bank off v = { c with ram := Memory.write c.ram (c.ramIndex bank off) v } := by
  have hsize : c.ramSize ≠ 0 := by omega
  simp [Cartridge.ramWrite, h, hsize]

theorem Cartridge.ramWrite_outside {bank off : Nat} (h : c.ramSize ≤ c.ramIndex bank off) : c.ramWrite true bank off v = c := by
  simp [Cartridge.ramWrite, Nat.not_lt.2 h]

theorem Cartridge.ramRead_ramWrite {bank off : Nat} (hw : CartWf c) (hin : c.ramIndex bank off < c.ramSize) (b o : Nat) :
    (c.ramWrite true bank off v).ramRead true b o =
      if c.ramIndex b o = c.ramIndex bank off then v else c.ramRead true b o := by
  have hread : (c.ramWrite true bank off v).ramRead true b o =
      if 0 < c.ramSize ∧ c.ramIndex b o < c.ramSize then Memory.read (Memory.write c.ram (c.ramIndex bank off) v) (c.ramIndex b o)
      else 0xFF := by
    rw [Cartridge.ramWrite_inside hin]
    exact Cartridge.ramRead_enabled _ b o
  rw [hread, Memory.read_write hw.1, Cartridge.ramRead_enabled]
  by_cases heq : c.ramIndex b o = c.ramIndex bank off
  · have hpos : 0 < c.ramSize ∧ c.ramIndex b o < c.ramSize := by omega
    simp only [heq, if_true, if_pos (heq ▸ hpos)]
  · simp only [heq, if_false]

/-! ### The RAM-enable latch (R126) -/

/-- The latch of a variant that has one. -/
def Mbc.ramLatch : Mbc → Option Bool
  | .noMbc _ => none
  | .mbc1 r => some r.ramEnabled
  | .mbc2 r => some r.ramEnabled
  | .mbc3 r => some r.ramEnabled
  | .mbc5 r => some r.ramEnabled

theorem Cartridge.read_latchOff (hoff : c.mbc.ramLatch = some false) (model : Mbc1Model) (ha : 0xA000 ≤ a.toNat) :
    c.read model a = 0xFF := by
  rw [Cartridge.read_ramWindow c model ha]
  obtain ⟨rom, ram, mbc⟩ := c
  cases mbc with
  | noMbc arr => cases hoff
  | mbc1 r | mbc2 r | mbc3 r | mbc5 r =>
    have hen : r.ramEnabled = false := Option.some.inj hoff
    simp [hen, Cartridge.ramRead]

/-- A dropped write can move MBC3's clock, and neither the RAM nor the latch. -/
theorem Cartridge.write_latchOff (hoff : c.mbc.ramLatch = some false) (now : Nat) (ha : 0xA000 ≤ a.toNat) :
    (c.write now a v).ram = c.ram ∧ (c.write now a v).mbc.ramLatch = some false := by
  obtain ⟨rom, ram, mbc⟩ := c
  cases mbc with
  | noMbc arr => cases hoff
  | mbc1 r =>
    have hen : r.ramEnabled = false := Option.some.inj hoff
    rw [Cartridge.write_mbc1 (r := r) rfl, writeMbc1_ram _ r v ha, hen]
    exact ⟨rfl, hoff⟩
  | mbc2 r =>
    have hen : r.ramEnabled = false := Option.some.inj hoff
    rw [Cartridge.write_mbc2 (r := r) rfl, writeMbc2_ram _ r v ha, hen]
    exact ⟨rfl, hoff⟩
  | mbc3 r =>
    have hen : r.ramEnabled = false := Option.some.inj hoff
    rw [Cartridge.write_mbc3 (r := r) rfl]
    by_cases hs : r.selectsRtc = true
    · rw [writeMbc3_clock now _ v ha hs]
      exact ⟨rfl, hoff⟩
    · rw [writeMbc3_bankedRam now _ v ha hs, hen]
      split <;> exact ⟨rfl, hoff⟩
  | mbc5 r =>
    have hen : r.ramEnabled = false := Option.some.inj hoff
    rw [Cartridge.write_mbc5 (r := r) rfl, writeMbc5_ram _ r v ha, hen]
    exact ⟨rfl, hoff⟩

/-- Settles O47: a write with the latch at 0 leaves the RAM and the latch, and an enabled one moves the one byte at its index. -/
theorem ramEnableGates : Obligations.RamEnableGates := by
  refine ⟨fun c bank off => ⟨?_, ?_, ?_, rfl, Cartridge.ramRead_enabled c bank off⟩, fun c model now a v ha _ => ⟨fun h => ?_,
    fun bank off b o hw _ hin => Cartridge.ramRead_ramWrite hw hin b o, fun bank off hout => ?_⟩⟩
  · rw [Cartridge.ramSize]
    cases c.mbc <;> simp only [ramSizeOfCode_eq]
  · rw [Cartridge.ramBanks]
    omega
  · rw [Cartridge.ramBanks]
    omega
  · have hn : 0xA000 ≤ a.toNat := BitVec.le_def.1 ha
    have hoff : c.mbc.ramLatch = some false := by
      cases hm : c.mbc <;> simp only [hm] at h <;> exact congrArg some h
    obtain ⟨hram, hlatch⟩ := Cartridge.write_latchOff (v := v) hoff now hn
    exact ⟨Cartridge.read_latchOff hoff model hn, hram, Cartridge.read_latchOff hlatch model hn⟩
  · have hle : c.ramSize ≤ c.ramIndex bank off := by omega
    exact ⟨Cartridge.ramWrite_outside hle, (Cartridge.ramRead_enabled c bank off).trans (if_neg (by omega))⟩

end Sys2Proof.Machine
end

section
/-! SUPPORT. MBC3's clock counts seconds (21_cartridge.md R155, R156). -/

namespace Sys2Proof.Machine

variable {r x y : Rtc} {m n : Nat}

/-- The seconds since day 0 that a time of day stands for. -/
def Rtc.seconds (x : Rtc) : Nat := ((rtcDay x * 24 + x.h.toNat) * 60 + x.m.toNat) * 60 + x.s.toNat

/-- A time of day: no field past the value at which it carries. -/
def Rtc.InRange (x : Rtc) : Prop := x.s.toNat < 60 ∧ x.m.toNat < 60 ∧ x.h.toNat < 24

/-- The clock `x` is `r` after `n` seconds that count: modulo 512 days, the carry set on the wrap (R155). -/
structure Rtc.Counted (r : Rtc) (n : Nat) (x : Rtc) : Prop where
  seconds : x.seconds = (r.seconds + n) % (512 * 86400)
  inRange : x.InRange
  running : x.halt = false
  carry   : x.carry = (r.carry || decide (512 * 86400 ≤ r.seconds + n))

theorem rtcDay_lt (x : Rtc) : rtcDay x < 512 := by
  have hd := x.dayHigh.toNat_le
  have hl := x.dl.isLt
  rw [rtcDay_eq]
  omega

/-- The 9 bits of a day count, split over DL and bit 0 of DH. -/
theorem rtcDay_of_count {d : Nat} (hl : x.dl = BitVec.ofNat 8 d) (hh : x.dayHigh = decide (256 ≤ d)) (hd : d < 512) :
    rtcDay x = d := by
  rw [rtcDay, hl, hh, BitVec.toNat_ofNat]
  simp only [decide_eq_true_eq]
  split <;> omega

theorem Rtc.InRange.seconds_lt (h : x.InRange) : x.seconds < 512 * 86400 := by
  obtain ⟨hs, hm, hh⟩ := h
  have hd := rtcDay_lt x
  rw [Rtc.seconds]
  omega

/-! ### One second (R155) -/

theorem rtcTick_halted (h : r.halt = true) : rtcTick r = r := by rw [rtcTick, if_pos h]

theorem rtcTick_second (hr : r.halt = false) (hs : r.s ≠ 59) : rtcTick r = { r with s := r.s + 1 } := by
  simp only [rtcTick, hr, hs, ne_eq, not_false_eq_true, if_true, Bool.false_eq_true, if_false]

theorem rtcTick_minute (hr : r.halt = false) (hs : r.s = 59) (hm : r.m ≠ 59) : rtcTick r = { r with s := 0, m := r.m + 1 } := by
  simp only [rtcTick, hr, hs, hm, ne_eq, not_true_eq_false, not_false_eq_true, if_true, Bool.false_eq_true, if_false]

theorem rtcTick_hour (hr : r.halt = false) (hs : r.s = 59) (hm : r.m = 59) (hh : r.h ≠ 23) :
    rtcTick r = { r with s := 0, m := 0, h := r.h + 1 } := by
  simp only [rtcTick, hr, hs, hm, hh, ne_eq, not_true_eq_false, not_false_eq_true, if_true, Bool.false_eq_true, if_false]

theorem rtcTick_wrap (hr : r.halt = false) (hs : r.s = 59) (hm : r.m = 59) (hh : r.h = 23) (hd : rtcDay r = 511) :
    rtcTick r = { r with s := 0, m := 0, h := 0, dl := 0, dayHigh := false, carry := true } := by
  simp only [rtcTick, hr, hs, hm, hh, hd, ne_eq, not_true_eq_false, if_true, Bool.false_eq_true, if_false]

theorem rtcTick_day (hr : r.halt = false) (hs : r.s = 59) (hm : r.m = 59) (hh : r.h = 23) (hd : rtcDay r ≠ 511) :
    rtcTick r = { r with s := 0, m := 0, h := 0, dl := BitVec.ofNat 8 (rtcDay r + 1),
                         dayHigh := decide (256 ≤ rtcDay r + 1) } := by
  simp only [rtcTick, hr, hs, hm, hh, hd, ne_eq, not_true_eq_false, Bool.false_eq_true, if_false]

/-- A second that wraps nothing: the count rises by one and the carry stays. -/
theorem Rtc.Counted.of_succ (hx : x.seconds = r.seconds + 1) (hin : x.InRange) (hrun : x.halt = false)
    (hc : x.carry = r.carry) : Rtc.Counted r 1 x := by
  have hlt : r.seconds + 1 < 512 * 86400 := hx ▸ hin.seconds_lt
  refine ⟨?_, hin, hrun, ?_⟩
  · rw [hx, Nat.mod_eq_of_lt hlt]
  · rw [hc, decide_eq_false (Nat.not_le.2 hlt), Bool.or_false]

/-- Each field counts up to the value where it carries into the next. -/
theorem rtcTick_counted (hr : r.halt = false) (hin : r.InRange) : Rtc.Counted r 1 (rtcTick r) := by
  obtain ⟨hsl, hml, hhl⟩ := hin
  by_cases hs : r.s = 59
  case neg =>
    have hsucc : (r.s + 1).toNat = r.s.toNat + 1 ∧ r.s.toNat < 59 := by bv_omega
    rw [rtcTick_second hr hs]
    exact .of_succ (by simp only [Rtc.seconds, rtcDay_eq]; omega) ⟨by simp only; omega, hml, hhl⟩ hr rfl
  have hs' : r.s.toNat = 59 := congrArg BitVec.toNat hs
  by_cases hm : r.m = 59
  case neg =>
    have hsucc : (r.m + 1).toNat = r.m.toNat + 1 ∧ r.m.toNat < 59 := by bv_omega
    rw [rtcTick_minute hr hs hm]
    exact .of_succ (by simp only [Rtc.seconds, rtcDay_eq]; bv_omega) ⟨by simp, by simp only; omega, hhl⟩ hr rfl
  have hm' : r.m.toNat = 59 := congrArg BitVec.toNat hm
  by_cases hh : r.h = 23
  case neg =>
    have hsucc : (r.h + 1).toNat = r.h.toNat + 1 ∧ r.h.toNat < 23 := by bv_omega
    rw [rtcTick_hour hr hs hm hh]
    exact .of_succ (by simp only [Rtc.seconds, rtcDay_eq]; bv_omega) ⟨by simp, by simp, by simp only; omega⟩ hr rfl
  have hh' : r.h.toNat = 23 := congrArg BitVec.toNat hh
  by_cases hd : rtcDay r = 511
  · have hv : r.seconds + 1 = 512 * 86400 := by rw [Rtc.seconds]; omega
    rw [rtcTick_wrap hr hs hm hh hd]
    refine ⟨?_, ⟨by simp, by simp, by simp⟩, hr, ?_⟩
    · rw [hv, Nat.mod_self]
      simp [Rtc.seconds, rtcDay_eq]
    · simp [hv]
  · have hdlt := rtcDay_lt r
    rw [rtcTick_day hr hs hm hh hd]
    refine .of_succ ?_ ⟨by simp, by simp, by simp⟩ hr rfl
    rw [Rtc.seconds, rtcDay_of_count (d := rtcDay r + 1) rfl rfl (by omega), Rtc.seconds]
    bv_omega

/-! ### Seconds in a row (R155, R156) -/

theorem Rtc.Counted.zero (hr : r.halt = false) (hin : r.InRange) : Rtc.Counted r 0 r :=
  ⟨(Nat.mod_eq_of_lt hin.seconds_lt).symm, hin, hr, by simp [Nat.not_le.2 hin.seconds_lt]⟩

/-- What counts `m` seconds and then `n` counts `m + n`: a wrap in either is a wrap of the whole. -/
theorem Rtc.Counted.trans (h1 : Rtc.Counted r m x) (h2 : Rtc.Counted x n y) : Rtc.Counted r (m + n) y := by
  refine ⟨?_, h2.inRange, h2.running, ?_⟩
  · rw [h2.seconds, h1.seconds, Nat.mod_add_mod, Nat.add_assoc]
  · have hwrap : (512 * 86400 ≤ r.seconds + m ∨ 512 * 86400 ≤ (r.seconds + m) % (512 * 86400) + n) ↔
        512 * 86400 ≤ r.seconds + (m + n) := by omega
    rw [h2.carry, h1.carry, h1.seconds, Bool.or_assoc, ← Bool.decide_or, decide_eq_decide.2 hwrap]

theorem rtcTicks_counted (n : Nat) (hr : r.halt = false) (hin : r.InRange) : Rtc.Counted r n (rtcTicks n r) := by
  induction n generalizing r with
  | zero => exact .zero hr hin
  | succ n ih =>
    have htick := rtcTick_counted hr hin
    have hcount : Rtc.Counted r (1 + n) (rtcTicks n (rtcTick r)) :=
      htick.trans (ih htick.running htick.inRange)
    rwa [Nat.add_comm 1 n] at hcount

theorem rtcTicks_halted (n : Nat) (h : r.halt = true) : rtcTicks n r = r := by
  induction n with
  | zero => rfl
  | succ n ih => rw [rtcTicks, rtcTick_halted h, ih]

theorem rtcTicks_add (m n : Nat) (r : Rtc) : rtcTicks (m + n) r = rtcTicks n (rtcTicks m r) := by
  induction m generalizing r with
  | zero => rw [Nat.zero_add]; rfl
  | succ m ih => rw [Nat.succ_add, rtcTicks, rtcTicks, ih]

/-- A halted clock needs no case of its own: its seconds count nothing. -/
theorem Mbc3.advance_eq (m : Mbc3) (now : Nat) :
    m.advance now = { m with live := rtcTicks (now - m.lastTime) m.live, lastTime := now } := by
  rw [Mbc3.advance]
  split
  · next h => rw [rtcTicks_halted _ h]
  · rfl

theorem Mbc3.advance_advance {m : Mbc3} {now later : Nat} (h1 : m.lastTime ≤ now) (h2 : now ≤ later) :
    (m.advance now).advance later = m.advance later := by
  have hsum : now - m.lastTime + (later - now) = later - m.lastTime := by omega
  simp only [Mbc3.advance_eq, ← rtcTicks_add, hsum]

/-- Settles O48: each second counts one (`rtcTick_counted`), and what counts adds up (`Rtc.Counted.trans`). -/
theorem rtcCountsSeconds : Obligations.RtcCountsSeconds := by
  refine fun r n => ⟨fun hr hin => ?_, rtcTicks_halted n, rtcTick_second, rtcTick_minute, rtcTick_hour, Mbc3.advance_eq,
    fun m now later h1 h2 => Mbc3.advance_advance h1 h2⟩
  obtain ⟨hseconds, hin', hrun, hcarry⟩ := rtcTicks_counted n hr hin
  exact ⟨hseconds, hin', hrun, hcarry⟩

end Sys2Proof.Machine
end

section
/-! SUPPORT. Loading a ROM image, and battery RAM (21_cartridge.md R120 to R122, R175, R575). -/

namespace Sys2Proof

/-! ### Writing back what is there -/

theorem writeCell_readCell {w : Nat} {u : Nat → BitVec w} {m : List (Nat × BitVec w)} {i : Nat} (hw : CellsWf u m) :
    writeCell u m i (readCell u m i) = m := by
  induction m with
  | nil => simp [writeCell, readCell]
  | cons c m ih =>
    obtain ⟨k, x⟩ := c
    obtain ⟨hk, hx, hm⟩ := cellsWf_cons.1 hw
    by_cases hik : i = k
    · subst hik
      simp [writeCell, readCell, hx]
    by_cases hlt : i < k
    · have hbelow : readCell u m i = u i := readCell_below fun c hc => Nat.lt_trans hlt (hk c hc)
      simp [writeCell, readCell, hik, hlt, hbelow]
    · simp [writeCell, readCell, hik, hlt, ih hm]

theorem Memory.writeAll_read {bytes : List Byte} {m : Memory} {i : Nat} (hw : Memory.wf m)
    (h : ∀ j v, bytes[j]? = some v → v = Memory.read m (i + j)) : Memory.writeAll m i bytes = m := by
  induction bytes generalizing i with
  | nil => rfl
  | cons v vs ih =>
    have hv : Memory.write m i v = m := by
      rw [h 0 v rfl]
      exact writeCell_readCell hw
    rw [Memory.writeAll, hv]
    refine ih fun j x hx => ?_
    rw [h (j + 1) x hx, Nat.add_right_comm, Nat.add_assoc]

end Sys2Proof

namespace Sys2Proof.Machine

variable {c : Cartridge} {b : Byte} {now : Nat}

/-! ### The variant of a type byte (R122, R575) -/

theorem byte_mem_iff {l : List Byte} : b ∈ l ↔ b.toNat ∈ l.map BitVec.toNat :=
  (List.mem_map_of_injective fun _ _ => BitVec.eq_of_toNat_eq).symm

theorem mbcOfType_of_mem {l : List Byte} {m : Mbc} (hl : ∀ x ∈ l, mbcOfType x now = some m)
    (h : b.toNat ∈ l.map BitVec.toNat) : mbcOfType b now = some m := hl b (byte_mem_iff.2 h)

theorem mbcOfType_noMbc (h : b.toNat ∈ [0x00, 0x08, 0x09]) : mbcOfType b now = some (.noMbc []) :=
  mbcOfType_of_mem (l := [0x00, 0x08, 0x09]) (by simp [mbcOfType]) h

theorem mbcOfType_mbc1 (h : b.toNat ∈ [0x01, 0x02, 0x03]) :
    mbcOfType b now = some (.mbc1 { ramEnabled := false, lo5 := 1, hi2 := 0, mode := false }) :=
  mbcOfType_of_mem (l := [0x01, 0x02, 0x03]) (by simp [mbcOfType]) h

theorem mbcOfType_mbc2 (h : b.toNat ∈ [0x05, 0x06]) :
    mbcOfType b now = some (.mbc2 { ramEnabled := false, bank4 := 1 }) :=
  mbcOfType_of_mem (l := [0x05, 0x06]) (by simp [mbcOfType]) h

/-- The clock at load: day 0, 00:00:00, running (R150). -/
def rtcAtLoad : Rtc := { s := 0, m := 0, h := 0, dl := 0, dayHigh := false, halt := false, carry := false }

theorem mbcOfType_mbc3 (h : b.toNat ∈ [0x0F, 0x10, 0x11, 0x12, 0x13]) :
    mbcOfType b now = some (.mbc3 { ramEnabled := false, bank7 := 1, sel := 0, latchArmed := false, live := rtcAtLoad,
                                    latched := rtcAtLoad, lastTime := now }) :=
  mbcOfType_of_mem (l := [0x0F, 0x10, 0x11, 0x12, 0x13]) (by simp [mbcOfType, rtcAtLoad]) h

theorem mbcOfType_mbc5 (h : b.toNat ∈ [0x19, 0x1A, 0x1B, 0x1C, 0x1D, 0x1E]) :
    mbcOfType b now = some (.mbc5 { ramEnabled := false, bank9 := 1, rbank := 0, rumble := false }) :=
  mbcOfType_of_mem (l := [0x19, 0x1A, 0x1B, 0x1C, 0x1D, 0x1E]) (by simp [mbcOfType]) h

/-- The known type bytes are those of the five variants' lists. -/
theorem mbcOfType_eq_none_iff :
    mbcOfType b now = none ↔ b.toNat ∉ [0x00, 0x01, 0x02, 0x03, 0x05, 0x06, 0x08, 0x09, 0x0F, 0x10, 0x11, 0x12, 0x13, 0x19,
      0x1A, 0x1B, 0x1C, 0x1D, 0x1E] := by
  have hlists : b.toNat ∈ [0x00, 0x01, 0x02, 0x03, 0x05, 0x06, 0x08, 0x09, 0x0F, 0x10, 0x11, 0x12, 0x13, 0x19, 0x1A, 0x1B,
      0x1C, 0x1D, 0x1E] ↔
      b ∈ ([0x00, 0x08, 0x09] : List Byte) ∨ b ∈ ([0x01, 0x02, 0x03] : List Byte) ∨ b ∈ ([0x05, 0x06] : List Byte) ∨
      b ∈ ([0x0F, 0x10, 0x11, 0x12, 0x13] : List Byte) ∨ b ∈ ([0x19, 0x1A, 0x1B, 0x1C, 0x1D, 0x1E] : List Byte) := by
    simp only [byte_mem_iff, ← List.mem_append]
    exact List.Perm.mem_iff (by decide)
  rw [hlists, mbcOfType]
  split_ifs with h1 h2 h3 h4 h5
  · exact iff_of_false nofun (not_not.2 (.inl h1))
  · exact iff_of_false nofun (not_not.2 (.inr (.inl h2)))
  · exact iff_of_false nofun (not_not.2 (.inr (.inr (.inl h3))))
  · exact iff_of_false nofun (not_not.2 (.inr (.inr (.inr (.inl h4)))))
  · exact iff_of_false nofun (not_not.2 (.inr (.inr (.inr (.inr h5)))))
  · simp only [h1, h2, h3, h4, h5, or_self, not_false_eq_true]

/-! ### The load (R120, R121) -/

theorem loadCartridge_short {rom : Image} (h : rom.size < 0x150) (init : Memory) (now : Nat) :
    loadCartridge rom init now = .error (.cartridgeTypeUnrecognized none) := by
  rw [loadCartridge, if_pos h]

theorem loadCartridge_error_iff {rom : Image} (h : 0x150 ≤ rom.size) (init : Memory) (now : Nat) :
    loadCartridge rom init now = .error (.cartridgeTypeUnrecognized (some (rom.byte 0x147))) ↔
      mbcOfType (rom.byte 0x147) now = none := by
  rw [loadCartridge, if_neg (by omega)]
  cases mbcOfType (rom.byte 0x147) now <;> simp

theorem loadCartridge_ok {rom : Image} {init : Memory} (h : loadCartridge rom init now = .ok c) :
    c.rom = rom ∧ mbcOfType (rom.byte 0x147) now = some c.mbc ∧ c.ram = Memory.slice init 0 c.ramSize 0 := by
  rw [loadCartridge] at h
  split at h
  · cases h
  · split at h
    · cases h
    · next m hm =>
      cases h
      exact ⟨rfl, hm, rfl⟩

/-! ### Battery RAM (R175) -/

theorem Cartridge.getRam_withRam {old : List Byte} (h : c.getRam = some old) (ram : Memory) :
    ({ c with ram := ram } : Cartridge).getRam = some ((List.range c.ramSize).map (Memory.read ram)) := by
  obtain ⟨rom, ram', mbc⟩ := c
  cases mbc with
  | noMbc arr => cases h
  | _ => rfl

theorem Cartridge.getRam_bytes {old : List Byte} (h : c.getRam = some old) :
    old = (List.range c.ramSize).map (Memory.read c.ram) :=
  Option.some.inj (h.symm.trans (Cartridge.getRam_withRam h c.ram))

theorem Cartridge.getRam_setRam {old : List Byte} (bytes : List Byte) (hw : CartWf c) (h : c.getRam = some old) :
    (c.setRam bytes).getRam = some (bytes.take c.ramSize ++ old.drop bytes.length) := by
  rw [Cartridge.setRam, Cartridge.getRam_withRam h, Cartridge.getRam_bytes h]
  congr 1
  apply List.ext_getElem?
  intro i
  by_cases hi : i < c.ramSize
  · have hset : ((List.range c.ramSize).map (Memory.read (Memory.writeAll c.ram 0 (bytes.take c.ramSize))))[i]? =
        some ((bytes[i]?).getD (Memory.read c.ram i)) := by
      simp [hi, Memory.read_writeAll hw.1]
    rw [hset, List.getElem?_append, List.length_take, List.getElem?_take, if_pos hi]
    by_cases hb : i < bytes.length
    · rw [if_pos (by omega), List.getElem?_eq_getElem hb]
      rfl
    · have hdrop : bytes.length + (i - min c.ramSize bytes.length) = i := by omega
      rw [if_neg (by omega), List.getElem?_drop, hdrop, List.getElem?_eq_none (by omega)]
      simp [hi]
  · rw [List.getElem?_eq_none (by simp; omega), List.getElem?_eq_none (by simp; omega)]

theorem Cartridge.setRam_getRam {old : List Byte} (hw : CartWf c) (h : c.getRam = some old) : c.setRam old = c := by
  have hram : Memory.writeAll c.ram 0 (old.take c.ramSize) = c.ram := by
    rw [Cartridge.getRam_bytes h, List.take_of_length_le (by simp)]
    refine Memory.writeAll_read hw.1 fun j v hv => ?_
    obtain ⟨-, rfl⟩ : j < c.ramSize ∧ Memory.read c.ram j = v := by simpa [List.getElem?_eq_some_iff] using hv
    rw [Nat.zero_add]
  rw [Cartridge.setRam, hram]

/-- Settles O58: the load's variant is its type byte's, and `setRAM` writes its bytes from index 0, as many as fit. -/
theorem cartridgeLoadAndBatteryRam : Obligations.CartridgeLoadAndBatteryRam := by
  refine ⟨fun rom init now => ⟨fun h => loadCartridge_short h init now, fun h =>
      ⟨(loadCartridge_error_iff h init now).trans mbcOfType_eq_none_iff, fun c hc => ?_⟩⟩, fun c bytes old hw hold =>
    ⟨by rw [Cartridge.getRam_bytes hold, List.length_map, List.length_range], Cartridge.getRam_setRam bytes hw hold, rfl,
      Cartridge.setRam_getRam hw hold⟩⟩
  obtain ⟨hrom, hmbc, hram⟩ := loadCartridge_ok hc
  have hvariant : ∀ {m : Mbc}, mbcOfType (rom.byte 0x147) now = some m → c.mbc = m :=
    fun h => Option.some.inj (hmbc.symm.trans h)
  refine ⟨hrom, fun i hi => ?_, fun h => hvariant (mbcOfType_noMbc h), fun h => hvariant (mbcOfType_mbc1 h),
    fun h => hvariant (mbcOfType_mbc2 h), fun h => ⟨_, hvariant (mbcOfType_mbc3 h), ?_⟩, fun h => hvariant (mbcOfType_mbc5 h)⟩
  · rw [hram, Memory.read_slice, if_pos (by omega)]
    rfl
  · exact ⟨rfl, rfl, rfl, rfl, rfl, rfl, rfl, rfl, rfl, rfl, rfl, rfl⟩

end Sys2Proof.Machine
end

section
/-! SUPPORT. Decoding and encoding agree (30_encoding.md R180 to R195). -/

namespace Sys2Proof

variable {i : Instr} {op b1 b2 : Byte}

/-! ### The word of an instruction (R190) -/

theorem immediateWord_low_high (nn : Word) : immediateWord (immediateLow nn) (immediateHigh nn) = nn :=
  BitVec.extractLsb'_append_extractLsb'_eq_extractLsb' (by decide) |>.trans BitVec.extractLsb'_eq_self

theorem immediateLow_immediateWord (lo hi : Byte) : immediateLow (immediateWord lo hi) = lo :=
  BitVec.extractLsb'_append_eq_right

theorem immediateHigh_immediateWord (lo hi : Byte) : immediateHigh (immediateWord lo hi) = hi :=
  BitVec.extractLsb'_append_eq_left

/-! ### Encoding a decoded instruction -/

/-- The bytes after the opcode, by the length: none, the byte `n`, or the word `nn` low byte first (R180, R190). -/
def operandBytes (n : Byte) (nn : Word) : Nat → List Byte
  | 1 => []
  | 2 => [n]
  | _ => [immediateLow nn, immediateHigh nn]

/-- The bytes of a cell of the primary map, where the prefix byte stands alone. -/
def primaryBytes (n : Byte) (nn : Word) (op : Byte) : List Byte :=
  op :: operandBytes n nn (if op = 0xCB then 1 else instrLength op)

theorem primaryRow_map_encode {hi : Nat} (h : hi < 16) (n : Byte) (nn : Word) :
    (primaryRow hi n nn).map encode = (List.range 16).map fun lo => primaryBytes n nn (BitVec.ofNat 8 (16 * hi + lo)) := by
  interval_cases hi <;> rfl

theorem extendedRow_map_encode {hi : Nat} (h : hi < 16) :
    (extendedRow hi).map encode = (List.range 16).map fun lo => [0xCB, BitVec.ofNat 8 (16 * hi + lo)] := by
  interval_cases hi <;> rfl

/-- The cell of `op` in a map, where the encodings of its row are known. -/
theorem encode_cell {row : List Instr} {f : Byte → List Byte} (op : Byte)
    (h : row.map encode = (List.range 16).map fun lo => f (BitVec.ofNat 8 (16 * (op.toNat / 16) + lo))) :
    encode (row.getD (op.toNat % 16) .nop) = f op := by
  have hlo : op.toNat % 16 < 16 := Nat.mod_lt _ (by decide)
  rw [← List.getD_map (f := encode), h, List.getD_eq_getElem _ _ (by simpa using hlo), List.getElem_map, List.getElem_range,
    Nat.div_add_mod, BitVec.ofNat_toNat, BitVec.setWidth_eq]

theorem encode_decodeExtended (op2 : Byte) : encode (decodeExtended op2) = [0xCB, op2] :=
  encode_cell op2 (f := fun b => [0xCB, b]) (extendedRow_map_encode (by omega))

theorem encode_decodeBytes (op b1 b2 : Byte) : encode (decodeBytes op b1 b2) = [op, b1, b2].take (instrLength op) := by
  unfold decodeBytes
  split
  case isTrue h =>
    subst h
    exact encode_decodeExtended b1
  case isFalse h =>
    rw [encode_cell op (primaryRow_map_encode (by omega) b1 (immediateWord b1 b2)), primaryBytes, if_neg h]
    rcases instrLength_cases op with hl | hl | hl <;>
      simp [hl, operandBytes, immediateLow_immediateWord, immediateHigh_immediateWord]

theorem head_eq_of_take_instrLength {x : Byte} {xs : List Byte} (h : x :: xs = [op, b1, b2].take (instrLength op)) : x = op := by
  rcases instrLength_cases op with hl | hl | hl <;> rw [hl] at h <;> exact (List.cons.inj h).1

/-- The encoding is as long as the first byte says, and the lone prefix byte is shorter. -/
theorem decodeBytes_wellFormed (op b1 b2 : Byte) : (decodeBytes op b1 b2).wellFormed = true := by
  refine decide_eq_true fun hp => ?_
  have h := encode_decodeBytes op b1 b2
  rw [hp, encode] at h
  obtain rfl := head_eq_of_take_instrLength h
  rw [instrLength_cb] at h
  cases h

/-! ### Decoding an encoded instruction -/

theorem decode_take_append (op b1 b2 : Byte) (rest : List Byte) :
    decode ([op, b1, b2].take (instrLength op) ++ rest) = .ok (decodeBytes op b1 b2, rest) := by
  rcases instrLength_cases op with hl | hl | hl
  · have hne : op ≠ 0xCB := by
      rintro rfl
      exact absurd hl (by decide)
    rw [decodeBytes_one hl, hl]
    match rest with
    | [] => exact (if_neg hne).trans (if_pos hl)
    | [x] => simp [decode, hl, decodeBytes_one hl x]
    | x :: y :: rest => simp [decode, hl, decodeBytes_one hl x]
  · rw [decodeBytes_two hl, hl]
    match rest with
    | [] => simp [decode, hl]
    | x :: rest => simp [decode, hl, decodeBytes_two hl b1 x]
  · simp [decode, hl]

theorem decodeBytes_word (h : op ≠ 0xCB) (nn : Word) :
    decodeBytes op (immediateLow nn) (immediateHigh nn) =
      (primaryRow (op.toNat / 16) (immediateLow nn) nn).getD (op.toNat % 16) .nop := by
  rw [decodeBytes, if_neg h, immediateWord_low_high]

theorem decodeBytes_of_encode (h : i.wellFormed = true) :
    ∃ op operand, encode i = op :: operand ∧ decodeBytes op (operand.getD 0 0) (operand.getD 1 0) = i := by
  cases i
  case prefixCB => exact absurd h (by decide)
  case ldBC_nn nn | ldAtNN_SP nn | ldDE_nn nn | ldHL_nn nn | ldSP_nn nn | jpNZ_nn nn | jp_nn nn | callNZ_nn nn | jpZ_nn nn |
      callZ_nn nn | call_nn nn | jpNC_nn nn | callNC_nn nn | jpC_nn nn | callC_nn nn | ldAtNN_A nn | ldA_atNN nn =>
    exact ⟨_, _, rfl, decodeBytes_word (by decide) nn⟩
  all_goals exact ⟨_, _, rfl, rfl⟩

theorem decode_encode_append (h : i.wellFormed = true) (rest : List Byte) : decode (encode i ++ rest) = .ok (i, rest) := by
  obtain ⟨op, operand, -, hi⟩ := decodeBytes_of_encode h
  rw [← hi, encode_decodeBytes, decode_take_append]

/-- Three bytes decode to the one whole instruction whose encoding they begin with. -/
theorem decodeBytes_eq_iff (h : i.wellFormed = true) :
    decodeBytes op b1 b2 = i ↔ encode i = [op, b1, b2].take (instrLength op) := by
  refine ⟨?_, fun he => ?_⟩
  · rintro rfl
    exact encode_decodeBytes op b1 b2
  · have hd := decode_take_append op b1 b2 []
    rw [← he, decode_encode_append h] at hd
    injection hd with hd
    exact (congrArg Prod.fst hd).symm

/-- Settles O2: the cells of the two maps give `encode_decodeBytes`, the constructors `decodeBytes_of_encode`. -/
theorem decodeAndEncodeAgree : Obligations.DecodeAndEncodeAgree :=
  ⟨fun _ rest h => decode_encode_append h rest, fun op b1 b2 =>
    ⟨instrLength_cases op, decodeBytes_wellFormed op b1 b2, encode_decodeBytes op b1 b2⟩⟩

end Sys2Proof
end

section
/-! SUPPORT. The words and the operand fields of the opcode maps (30_encoding.md R182 to R192). -/

namespace Sys2Proof.Machine

/-- Settles O1: the decoder runs on each word. -/
theorem writtenWordsDecode : Obligations.WrittenWordsDecode :=
  ⟨rfl, rfl, rfl, rfl, rfl, rfl, rfl, rfl, rfl, rfl, rfl, rfl, rfl, rfl, rfl, rfl⟩

theorem exists_ofNat_lt_eight (y : BitVec 3) : ∃ k < 8, y = BitVec.ofNat 3 k :=
  ⟨y.toNat, y.isLt, by simp⟩

theorem rstTarget_toNat (t : BitVec 3) : (rstTarget t).toNat = 8 * t.toNat := by
  revert t
  decide

/-- Settles O3: each value of the fields is a cell of the maps. -/
theorem opcodeFields : Obligations.OpcodeFields := by
  refine ⟨fun d k n m => ?_, fun r n m => ?_, fun r n m => ?_, fun p n m => ?_, fun cc n m => ?_, fun x => ⟨rfl, rfl, rfl, rfl⟩,
    fun o k n m => ?_, fun o y k m => ⟨?_, ?_⟩, fun t n m => ⟨?_, rstTarget_toNat t⟩⟩
  · rcases d with (_ | _ | _ | _ | _ | _ | _) | _ <;> rcases k with (_ | _ | _ | _ | _ | _ | _) | _ <;> exact ⟨rfl, rfl, rfl, rfl⟩
  · cases r <;> exact ⟨rfl, rfl, rfl, rfl⟩
  · cases r <;> exact ⟨rfl, rfl⟩
  · cases p <;> exact ⟨rfl, rfl⟩
  · cases cc <;> exact ⟨rfl, rfl, rfl, rfl⟩
  · cases o <;> rcases k with (_ | _ | _ | _ | _ | _ | _) | _ <;> exact ⟨rfl, rfl⟩
  · cases o <;> rcases k with (_ | _ | _ | _ | _ | _ | _) | _ <;> rfl
  · obtain ⟨y, hy, rfl⟩ := exists_ofNat_lt_eight y
    interval_cases y <;> rcases k with (_ | _ | _ | _ | _ | _ | _) | _ <;> exact ⟨rfl, rfl, rfl⟩
  · obtain ⟨t, ht, rfl⟩ := exists_ofNat_lt_eight t
    interval_cases t <;> rfl

end Sys2Proof.Machine
end

section
/-! SUPPORT. The illegal opcodes (30_encoding.md R193, 46_system.md R416). -/

namespace Sys2Proof.Machine

variable {p : Instr × Byte} {s : State}

theorem encode_illegal (hp : p ∈ Instr.illegals) : encode p.1 = [p.2] := by
  revert p
  decide

theorem illegal_wellFormed (hp : p ∈ Instr.illegals) : p.1.wellFormed = true := by
  revert p
  decide

theorem instrLength_illegal (hp : p ∈ Instr.illegals) : instrLength p.2 = 1 := by
  revert p
  decide

theorem decodeBytes_eq_illegal_iff (hp : p ∈ Instr.illegals) {op b1 b2 : Byte} : decodeBytes op b1 b2 = p.1 ↔ p.2 = op := by
  rw [decodeBytes_eq_iff (illegal_wellFormed hp), encode_illegal hp]
  refine ⟨head_eq_of_take_instrLength, ?_⟩
  rintro rfl
  rw [instrLength_illegal hp]
  rfl

theorem exec_illegal (hp : p ∈ Instr.illegals) (s : State) :
    exec p.1 s = .next { s with runState := .faulted (.illegalOpcode p.2 s.opcodeAddr) } := by
  revert p
  simp only [Instr.illegals, List.forall_mem_cons]
  exact ⟨rfl, rfl, rfl, rfl, rfl, rfl, rfl, rfl, rfl, rfl, rfl, nofun⟩

/-- An error ends the step: no phase follows the execution (R430). -/
theorem finishStep_exec_illegal (hp : p ∈ Instr.illegals) (pending : Bool) (s : State) :
    finishStep pending (exec p.1 s) = exec p.1 s := by
  rw [exec_illegal hp]
  rfl

theorem fetchInstr_illegal (hp : p ∈ Instr.illegals) (hread : CanRead s s.regs.pc) (hop : p.2 = s.peek s.regs.pc) :
    fetchInstr s = .ok p.1 (s.afterFetch 1) := by
  have hl : instrLength (s.peek s.regs.pc) = 1 := hop ▸ instrLength_illegal hp
  rw [fetchInstr, fetchOpcode_ok hread, Access.bind_ok, if_pos hl, (decodeBytes_eq_illegal_iff hp).2 hop]

theorem step_illegal (hp : p ∈ Instr.illegals) (hrun : s.runState = .running) (hread : CanRead s s.regs.pc)
    (hop : p.2 = s.peek s.regs.pc) :
    step s = .next { s.afterFetch 1 with runState := .faulted (.illegalOpcode p.2 s.regs.pc) } := by
  rw [step, hrun, fetchInstr_illegal hp hread hop]
  exact (finishStep_exec_illegal hp _ _).trans (exec_illegal hp _)

/-- The address of the byte after the opcode, by the halt bug (10_state.md R39). -/
theorem State.fetchAddr_one (s : State) : s.fetchAddr 1 = if s.haltBugArmed then s.regs.pc else s.regs.pc + 1 := by
  unfold State.fetchAddr
  split <;> simp

/-- Settles O4: the cell of an illegal opcode and no other is `decodeBytes_eq_illegal_iff`, the step `step_illegal`. -/
theorem illegalOpcodesFault : Obligations.IllegalOpcodesFault := by
  refine ⟨rfl, fun op b1 b2 => ?_, fun p hp s pending => ⟨encode_illegal hp, exec_illegal hp s,
    finishStep_exec_illegal hp pending s, fun a => rfl, fun hrun hread hop =>
      ⟨step_illegal hp hrun hread hop.symm, fun hb => ?_, fun hb => ?_⟩⟩⟩
  · simp only [List.mem_map, eq_comm (b := decodeBytes op b1 b2)]
    exact exists_congr fun p => and_congr_right fun hp => decodeBytes_eq_illegal_iff hp
  · change s.fetchAddr 1 - 1 = s.regs.pc
    simp [State.fetchAddr_one, hb]
  · change s.fetchAddr 1 = s.regs.pc
    simp [State.fetchAddr_one, hb]

end Sys2Proof.Machine
end

section
/-! SUPPORT. The 8-bit loads (40_load8.md R220 to R238): what one bus access makes of an instruction's answer, and the loads
on it. -/

namespace Sys2Proof.Machine

variable {s : State} {a : Word} {v : Byte} {cost : Nat}

/-! ### One bus access, then the rest of the instruction -/

theorem finish_memRead_ok (h : CanRead s a) (f : Byte → State → Access Unit) :
    finish cost ((memRead s a).bind f) = finish cost (f (s.peek a) (s.afterRead a)) := by
  rw [memRead_ok h, Access.bind_ok]

theorem finish_memRead_missed (h : ¬ CanRead s a) (f : Byte → State → Access Unit) :
    finish cost ((memRead s a).bind f) = .next (s.readMissed a) := by
  rw [memRead_error h]
  rfl

theorem finish_memWrite_ok (h : CanWrite s a v) :
    finish cost (memWrite s a v) = .next { s.afterWrite a v with cycles := cost } := by
  rw [memWrite_ok h, finish_ok]

theorem finish_memWrite_missed (h : ¬ CanWrite s a v) : finish cost (memWrite s a v) = .next (s.writeMissed a v) := by
  rw [memWrite_error h]
  rfl

/-! ### The loads and stores of A -/

theorem loadAFrom_ok (h : CanRead s a) :
    loadAFrom a cost s = .next { (s.afterRead a).setReg .a (s.peek a) with cycles := cost } := finish_memRead_ok h _

theorem loadAFrom_missed (h : ¬ CanRead s a) : loadAFrom a cost s = .next (s.readMissed a) := finish_memRead_missed h _

/-- A read of the page at 0xFF00 never misses the cartridge, and leaves the state as it was. -/
theorem loadAFrom_highPage (n : Byte) :
    loadAFrom (highPage n) cost s = .next { s.setReg .a (s.peek (highPage n)) with cycles := cost } := by
  rw [loadAFrom_ok (CanRead.of_high (highPage_le n)), State.afterRead_of_high (highPage_le n)]

theorem loadAMem_ok {p : MemPair} (h : CanRead s (s.memPairAddr p)) : loadAMem p s =
    .next { ((s.afterRead (s.memPairAddr p)).setReg .a (s.peek (s.memPairAddr p))).stepMemPair p with cycles := 8 } :=
  finish_memRead_ok h _

theorem loadAMem_missed {p : MemPair} (h : ¬ CanRead s (s.memPairAddr p)) :
    loadAMem p s = .next (s.readMissed (s.memPairAddr p)) := finish_memRead_missed h _

theorem storeAAt_ok (h : CanWrite s a s.regs.a) :
    storeAAt a cost s = .next { s.afterWrite a s.regs.a with cycles := cost } := finish_memWrite_ok h

theorem storeAAt_missed (h : ¬ CanWrite s a s.regs.a) : storeAAt a cost s = .next (s.writeMissed a s.regs.a) :=
  finish_memWrite_missed h

theorem storeAMem_ok {p : MemPair} (h : CanWrite s (s.memPairAddr p) s.regs.a) : storeAMem p s =
    .next { (s.afterWrite (s.memPairAddr p) s.regs.a).stepMemPair p with cycles := 8 } := by
  rw [storeAMem, memWrite_ok h]
  rfl

/-- The miss comes before the step of HL. -/
theorem storeAMem_missed {p : MemPair} (h : ¬ CanWrite s (s.memPairAddr p) s.regs.a) :
    storeAMem p s = .next (s.writeMissed (s.memPairAddr p) s.regs.a) := by
  rw [storeAMem, memWrite_error h]
  rfl

/-! ### The families -/

theorem exec_ldR8_atHL (s : State) (r : Reg8) : exec (.ldR8 .atHL (.reg r)) s = loadR8 .atHL (.reg r) s := by cases r <;> rfl

theorem exec_ldATo (s : State) (p : MemPair) : exec (.ldATo p) s = storeAMem p s := by cases p <;> rfl

/-- The cell of (HL) twice, HALT, keeps the pattern (R191). -/
theorem encode_ldR8 (d k : R8) : encode (.ldR8 d k) = [0b01#2 ++ r8Bits d ++ r8Bits k] := by
  rcases d with (_ | _ | _ | _ | _ | _ | _) | _ <;> rcases k with (_ | _ | _ | _ | _ | _ | _) | _ <;> rfl

theorem encode_ldImm (d : R8) (n : Byte) : encode (.ldImm d n) = [0b00#2 ++ r8Bits d ++ 0b110#3, n] := by
  rcases d with (_ | _ | _ | _ | _ | _ | _) | _ <;> rfl

theorem encode_ldAFrom (p : MemPair) : encode (.ldAFrom p) = [0b00#2 ++ memPairBits p ++ 0b1010#4] := by cases p <;> rfl

theorem encode_ldATo (p : MemPair) : encode (.ldATo p) = [0b00#2 ++ memPairBits p ++ 0b0010#4] := by cases p <;> rfl

theorem highPage_toNat (n : Byte) : (highPage n).toNat = 0xFF00 + n.toNat := by
  unfold highPage
  bv_omega

/-- Settles O12: a register operand makes no bus access. -/
theorem loadRegister : Obligations.LoadRegister := fun r q n s =>
  ⟨encode_ldR8 _ _, exec_ldR8 s r (.reg q), encode_ldImm _ n, exec_ldImm s (.reg r) n⟩

/-- Settles O13: a read that misses ends the instruction before the register and HL change (`finish_memRead_missed`). -/
theorem loadFromMemory : Obligations.LoadFromMemory := fun s r p _ n =>
  ⟨encode_ldR8 _ _,
    fun h => (exec_ldR8 s r .atHL).trans (finish_memRead_ok h _),
    fun h => (exec_ldR8 s r .atHL).trans (finish_memRead_missed h _),
    ⟨rfl, rfl, rfl, rfl, rfl, rfl, rfl, rfl⟩,
    encode_ldAFrom p,
    fun h => (exec_ldAFrom s p).trans (loadAMem_ok h),
    fun h => (exec_ldAFrom s p).trans (loadAMem_missed h),
    rfl, loadAFrom_ok, loadAFrom_missed,
    rfl, loadAFrom_highPage n,
    rfl, loadAFrom_highPage s.regs.c⟩

/-- Settles O14: a write that misses ends the instruction before HL changes (`storeAMem_missed`). -/
theorem storeToMemory : Obligations.StoreToMemory := fun s r p _ n =>
  ⟨encode_ldR8 .atHL (.reg r),
    fun h => (exec_ldR8_atHL s r).trans (finish_memWrite_ok h),
    fun h => (exec_ldR8_atHL s r).trans (finish_memWrite_missed h),
    rfl, finish_memWrite_ok, finish_memWrite_missed,
    encode_ldATo p,
    fun h => (exec_ldATo s p).trans (storeAMem_ok h),
    fun h => (exec_ldATo s p).trans (storeAMem_missed h),
    rfl, storeAAt_ok, storeAAt_missed,
    rfl, storeAAt_ok, storeAAt_missed,
    rfl, storeAAt_ok, storeAAt_missed,
    highPage_toNat n⟩

end Sys2Proof.Machine
end

section
/-! SUPPORT. The 16-bit loads and the stack (41_load16_stack.md R260 to R266). -/

namespace Sys2Proof.Machine

variable {s : State} {a v : Word} {cost : Nat} {r : StackPair}

/-! ### Two bus accesses: PUSH, POP and a word's store -/

theorem pushPair_ok (h : CanPush s (s.getStackPair r)) :
    pushPair r s = .next { s.afterPush (s.getStackPair r) with cycles := 16 } := by
  rw [pushPair, push16_ok h, finish_ok]

theorem pushPair_missed (h : ¬ CanPush s (s.getStackPair r)) :
    pushPair r s = .next (s.pushMissed (s.getStackPair r)) := by
  obtain ⟨e, t, hpush, hraise⟩ := push16_error h
  rw [pushPair, hpush, finish_error, hraise]

theorem popPair_ok (h : CanPop s) :
    popPair r s = .next { s.afterPop.setStackPair r s.topWord with cycles := 12 } := by
  rw [popPair, pop16_ok h, Access.bind_ok, finish_ok]

/-- The miss comes before the pair is set. -/
theorem popPair_missed (h : ¬ CanPop s) : popPair r s = .next s.popMissed := by
  obtain ⟨e, t, hpop, hraise⟩ := pop16_error h
  rw [popPair, hpop, Access.bind_error, finish_error, hraise]

/-- Once the low byte is written, the store ends as the write of the high byte does. -/
theorem finish_memWrite16_of_low (h : CanWrite s a (loByte v)) :
    finish cost (memWrite16 s a v) = finish cost (memWrite (s.afterWrite a (loByte v)) (a + 1) (hiByte v)) := by
  rw [memWrite16, memWrite_ok h, Access.bind_ok]

theorem finish_memWrite16_missed (h : ¬ CanWrite s a (loByte v)) :
    finish cost (memWrite16 s a v) = .next (s.writeMissed a (loByte v)) := by
  rw [memWrite16, memWrite_error h]
  rfl

/-! ### Words and their bytes as numbers -/

theorem loByte_toNat (v : Word) : (loByte v).toNat = v.toNat % 256 := by
  rw [loByte_eq_ofNat, BitVec.toNat_ofNat]

theorem hiByte_toNat (v : Word) : (hiByte v).toNat = v.toNat / 256 := by
  rw [hiByte_eq_ofNat, BitVec.toNat_ofNat, Nat.mod_eq_of_lt (by omega)]

/-- Adding a sign-extended byte adds its value as an integer (R266). -/
theorem add_signExtend_eq_ofInt (w : Word) (e : Byte) : w + e.signExtend 16 = BitVec.ofInt 16 (w.toNat + e.toInt) := by
  rw [BitVec.ofInt_add, BitVec.ofInt_natCast, BitVec.ofNat_toNat, BitVec.setWidth_eq]
  rfl

theorem loadHlSp_eq (e : Byte) : loadHlSp e s = .next
    { (s.setPair .hl (BitVec.ofInt 16 (s.regs.sp.toNat + e.toInt))).setFlags (addSpOffset s.regs.sp e).2 with
      cycles := 12 } := by
  rw [← add_signExtend_eq_ofInt]
  rfl

/-! ### AF on the stack -/

/-- The low byte of AF is F itself (R263). -/
theorem State.loByte_getStackPair_af : loByte (s.getStackPair .af) = s.regs.f := loByte_joinBytes _ _

/-- The mask that POP AF puts on F keeps the four flags (R265). -/
theorem flagsOfByte_maskHigh (x : Byte) : flagsOfByte (x &&& 0xF0) = flagsOfByte x := by
  simp [flagsOfByte]

theorem flagsOfByte_loByte (v : Word) :
    flagsOfByte (loByte v) = { z := v.getLsbD 7, n := v.getLsbD 6, h := v.getLsbD 5, c := v.getLsbD 4 } := by
  simp [flagsOfByte, loByte]

/-! ### The families -/

theorem exec_push (s : State) (r : StackPair) : exec (.push r) s = pushPair r s := by cases r <;> rfl

theorem encode_push (r : StackPair) : encode (.push r) = [0b11#2 ++ stackPairBits r ++ 0b0101#4] := by cases r <;> rfl

theorem encode_pop (r : StackPair) : encode (.pop r) = [0b11#2 ++ stackPairBits r ++ 0b0001#4] := by cases r <;> rfl

theorem encode_ldPair (r : Pair) (nn : Word) :
    encode (.ldPair r nn) = [0b00#2 ++ pairBits r ++ 0b0001#4, loByte nn, hiByte nn] := by cases r <;> rfl

/-- Settles O16: `CanPush` has a conjunct for each of the two writes, and AF's low byte is F. -/
theorem pushWritesTheStack : Obligations.PushWritesTheStack := fun s r =>
  ⟨encode_push r,
    fun h => ⟨(exec_push s r).trans (pushPair_ok h), State.afterPush_regs _, rfl⟩,
    fun h => (exec_push s r).trans (pushPair_missed h),
    fun hf => State.loByte_getStackPair_af ▸ hf⟩

/-- Settles O17: both reads come before the pair is set (`popPair_missed`), and the mask on F keeps its flags. -/
theorem popReadsTheStack : Obligations.PopReadsTheStack := fun s r =>
  ⟨encode_pop r, joinBytes_toNat _ _,
    fun h => ⟨(exec_pop s r).trans (popPair_ok h), State.afterPop_regs, rfl⟩,
    fun h => (exec_pop s r).trans (popPair_missed h),
    fun v => (flagsOfByte_maskHigh _).trans (flagsOfByte_loByte v)⟩

/-- Settles O15: LD (nn),SP is the write of the low byte, then that of the high byte in the state the first leaves. -/
theorem loadWords : Obligations.LoadWords := fun s r nn e =>
  ⟨encode_ldPair r nn, exec_ldPair s r nn,
    rfl, rfl, rfl, rfl,
    loadHlSp_eq e,
    fun hlow => ⟨fun hhigh => (finish_memWrite16_of_low hlow).trans (finish_memWrite_ok hhigh),
      fun hhigh => (finish_memWrite16_of_low hlow).trans (finish_memWrite_missed hhigh)⟩,
    finish_memWrite16_missed,
    loByte_toNat nn, hiByte_toNat nn⟩

end Sys2Proof.Machine
end

section
/-! SUPPORT. 8-bit arithmetic and logic (42_alu8.md R280 to R296): the results and flags as arithmetic on the operands' values, and
what DAA makes of decimal operands. -/

namespace Sys2Proof.Machine

/-! ### The results and the flags, as numbers -/

theorem beq_zero_eq_decide (v : Byte) : (v == 0) = decide (v.toNat = 0) :=
  Bool.eq_iff_iff.2 (by simp [← BitVec.toNat_inj])

theorem and_fifteen (n : Nat) : n &&& 15 = n % 16 := Nat.and_two_pow_sub_one_eq_mod n 4

theorem bitByte_eq_ofInt (b : Bool) : bitByte b = BitVec.ofInt 8 b.toNat := by cases b <;> rfl

/-- An integer's low byte is 0 where 256 divides the integer. -/
theorem ofInt_beq_zero (t : Int) : (BitVec.ofInt 8 t == 0) = decide (t % 256 = 0) := by
  rw [beq_zero_eq_decide, BitVec.toNat_ofInt]
  exact decide_eq_decide.2 (by omega)

theorem add8_eq (a v : Byte) (cin : Bool) : add8 a v cin =
    (BitVec.ofNat 8 (a.toNat + v.toNat + cin.toNat),
      { z := decide ((a.toNat + v.toNat + cin.toNat) % 256 = 0), n := false,
        h := decide (15 < a.toNat % 16 + v.toNat % 16 + cin.toNat),
        c := decide (255 < a.toNat + v.toNat + cin.toNat) }) := by
  rw [add8, beq_zero_eq_decide, BitVec.toNat_ofNat]

theorem ofInt_sub_ofInt (t k : Int) : BitVec.ofInt 8 t - BitVec.ofInt 8 k = BitVec.ofInt 8 (t - k) := by
  apply BitVec.eq_of_toNat_eq
  simp only [BitVec.toNat_sub, BitVec.toNat_ofInt]
  omega

theorem ofInt_toNat (v : Byte) : BitVec.ofInt 8 v.toNat = v := by
  rw [BitVec.ofInt_natCast, BitVec.ofNat_toNat, BitVec.setWidth_eq]

/-- Subtracting bytes subtracts their values as integers. -/
theorem sub_sub_bitByte_eq_ofInt (a v : Byte) (cin : Bool) :
    a - v - bitByte cin = BitVec.ofInt 8 ((a.toNat : Int) - v.toNat - cin.toNat) := by
  rw [← ofInt_sub_ofInt, ← ofInt_sub_ofInt, ofInt_toNat, ofInt_toNat, bitByte_eq_ofInt]

theorem sub8_eq (a v : Byte) (cin : Bool) : sub8 a v cin =
    (BitVec.ofInt 8 ((a.toNat : Int) - v.toNat - cin.toNat),
      { z := decide (((a.toNat : Int) - v.toNat - cin.toNat) % 256 = 0), n := true,
        h := decide (((a.toNat % 16 : Nat) : Int) - (v.toNat % 16 : Nat) - cin.toNat < 0),
        c := decide ((a.toNat : Int) - v.toNat - cin.toNat < 0) }) := by
  have hh : a.toNat % 16 < v.toNat % 16 + cin.toNat ↔ ((a.toNat % 16 : Nat) : Int) - (v.toNat % 16 : Nat) - cin.toNat < 0 := by
    omega
  have hc : a.toNat < v.toNat + cin.toNat ↔ (a.toNat : Int) - v.toNat - cin.toNat < 0 := by omega
  simp only [sub8, sub_sub_bitByte_eq_ofInt, ofInt_beq_zero, hh, hc]

theorem logic8_eq (w : Byte) (h : Bool) :
    logic8 w h = (w, { z := decide (w.toNat = 0), n := false, h := h, c := false }) := by
  rw [logic8, beq_zero_eq_decide]

theorem inc8_eq (v : Byte) (x : Flags) : inc8 v x =
    (v + 1, { z := decide (v.toNat = 255), n := false, h := decide (v.toNat % 16 = 15), c := x.c }) := by
  have hz : (v + 1 == 0) = decide (v.toNat = 255) := by
    rw [beq_zero_eq_decide]
    exact decide_eq_decide.2 (by bv_omega)
  have hh : (v &&& 0x0F == 0x0F) = decide (v.toNat % 16 = 15) :=
    Bool.eq_iff_iff.2 (by simp [← BitVec.toNat_inj, and_fifteen])
  rw [inc8, hz, hh]

theorem dec8_eq (v : Byte) (x : Flags) : dec8 v x =
    (v - 1, { z := decide (v.toNat = 1), n := true, h := decide (v.toNat % 16 = 0), c := x.c }) := by
  have hz : (v - 1 == 0) = decide (v.toNat = 1) := by
    rw [beq_zero_eq_decide]
    exact decide_eq_decide.2 (by bv_omega)
  have hh : (v &&& 0x0F == 0x00) = decide (v.toNat % 16 = 0) :=
    Bool.eq_iff_iff.2 (by simp [← BitVec.toNat_inj, and_fifteen])
  rw [dec8, hz, hh]

/-! ### DAA's adjustment -/

/-- What DAA adjusts the low digit by. -/
def daaLow (a : Byte) (x : Flags) : Int := if x.h ∨ (x.n = false ∧ 9 < a.toNat % 16) then 0x06 else 0

/-- The carry DAA leaves. -/
def daaCarry (a : Byte) (x : Flags) : Bool := x.c || (!x.n && decide (0x99 < a.toNat))

/-- What DAA adjusts the high digit by. -/
def daaHigh (a : Byte) (x : Flags) : Int := if daaCarry a x then 0x60 else 0

/-- The two adjustments share no bit, so their union is their sum. -/
theorem or_adjustments (p q : Prop) [Decidable p] [Decidable q] :
    (if p then 6#8 else 0#8) ||| (if q then 96#8 else 0#8) = BitVec.ofInt 8 ((if p then 6 else 0) + (if q then 96 else 0)) := by
  split_ifs <;> rfl

theorem daaAdjust_eq (a : Byte) (x : Flags) :
    daaAdjust a x = (BitVec.ofInt 8 (daaLow a x + daaHigh a x), daaCarry a x) := by
  obtain ⟨z, n, h, c⟩ := x
  cases n with
  | true => simp [daaAdjust, daaLow, daaHigh, daaCarry, or_adjustments]
  | false => simp [daaAdjust, daaLow, daaHigh, daaCarry, or_adjustments, BitVec.lt_def, and_fifteen]

/-- The result of DAA. -/
def daaResult (a : Byte) (x : Flags) : Byte :=
  BitVec.ofInt 8 (if x.n then (a.toNat : Int) - daaLow a x - daaHigh a x else a.toNat + daaLow a x + daaHigh a x)

theorem daa8_eq (a : Byte) (x : Flags) : daa8 a x =
    (daaResult a x, { z := decide (daaResult a x = 0), n := x.n, h := false, c := daaCarry a x }) := by
  have hr : (if x.n then a - BitVec.ofInt 8 (daaLow a x + daaHigh a x) else a + BitVec.ofInt 8 (daaLow a x + daaHigh a x)) =
      daaResult a x := by
    unfold daaResult
    split
    · rw [Int.sub_sub, ← ofInt_sub_ofInt, ofInt_toNat]
    · rw [Int.add_assoc, BitVec.ofInt_add _ (daaLow a x + daaHigh a x), ofInt_toNat]
  rw [daa8, daaAdjust_eq, hr]
  rfl

/-! ### DAA on two-digit decimal numbers -/

/-- A two-digit decimal number, a digit to each nibble. -/
def bcd (n : Nat) : Byte := BitVec.ofNat 8 (n / 10 * 16 + n % 10)

theorem bcd_toNat {n : Nat} (h : n < 100) : (bcd n).toNat = n / 10 * 16 + n % 10 := by
  rw [bcd, BitVec.toNat_ofNat]
  omega

/-- DAA's idea. Where the bytes of two decimal numbers leave `16 * t + u` and the numbers themselves `10 * t + u`, adding 6 for each
carry `k` out of the ones and 0x60 for each carry `m` out of the tens makes the digits decimal again. -/
theorem ofInt_eq_bcd {v : Int} {n : Nat} (t u k m : Int) (hones : 0 ≤ u - 10 * k ∧ u - 10 * k < 10) (hn : n < 100)
    (hval : (n : Int) = 10 * t + u - 100 * m) (hv : v % 256 = (16 * t + u + 6 * k + 96 * m) % 256) :
    BitVec.ofInt 8 v = bcd n := by
  have htens : (n / 10 : Nat) = t + k - 10 * m := by omega
  apply BitVec.eq_of_toNat_eq
  rw [BitVec.toNat_ofInt, bcd_toNat hn]
  omega

/-- Below 0x19A, the carry out or the low byte tells whether a sum passes 0x99. -/
theorem sum_passes_0x99_iff {n : Nat} (h : n < 0x19A) : 255 < n ∨ 0x99 < n % 2 ^ 8 ↔ 0x99 < n := by omega

section

variable {x y : Nat} (cin : Bool) (hx : x < 100) (hy : y < 100)
include hx hy

/-! ADD and ADC: the carries are those of the decimal sum. -/

theorem daaLow_add8 : ∃ k : Int, daaLow (add8 (bcd x) (bcd y) cin).1 (add8 (bcd x) (bcd y) cin).2 = 6 * k ∧
    10 * k ≤ x % 10 + y % 10 + cin.toNat ∧ (x % 10 + y % 10 + cin.toNat : Int) < 10 * k + 10 := by
  have hc := Bool.toNat_le cin
  simp only [add8_eq, daaLow, bcd_toNat hx, bcd_toNat hy, BitVec.toNat_ofNat, true_and, decide_eq_true_eq]
  split
  · exact ⟨1, by omega⟩
  · exact ⟨0, by omega⟩

theorem daaCarry_add8 : daaCarry (add8 (bcd x) (bcd y) cin).1 (add8 (bcd x) (bcd y) cin).2 =
    decide (100 ≤ x + y + cin.toNat) := by
  have hc := Bool.toNat_le cin
  simp only [add8_eq, daaCarry, bcd_toNat hx, bcd_toNat hy, BitVec.toNat_ofNat, Bool.not_false, Bool.true_and,
    ← Bool.decide_or]
  exact decide_eq_decide.2 ((sum_passes_0x99_iff (by omega)).trans (by omega))

theorem daaResult_add8 : daaResult (add8 (bcd x) (bcd y) cin).1 (add8 (bcd x) (bcd y) cin).2 =
    bcd ((x + y + cin.toNat) % 100) := by
  obtain ⟨k, hlow, hk⟩ := daaLow_add8 cin hx hy
  have hc := Bool.toNat_le cin
  rw [daaResult, hlow, daaHigh, daaCarry_add8 cin hx hy]
  simp only [add8_eq, bcd_toNat hx, bcd_toNat hy, BitVec.toNat_ofNat, decide_eq_true_eq, Bool.false_eq_true, if_false]
  apply ofInt_eq_bcd (x / 10 + y / 10) (x % 10 + y % 10 + cin.toNat) k (if 100 ≤ x + y + cin.toNat then 1 else 0)
  · omega
  · omega
  · omega
  · split <;> omega

/-! SUB and SBC: the borrows are those of the decimal difference. -/

theorem daaLow_sub8 : ∃ k : Int, daaLow (sub8 (bcd x) (bcd y) cin).1 (sub8 (bcd x) (bcd y) cin).2 = 6 * k ∧
    (y % 10 + cin.toNat : Int) ≤ x % 10 + 10 * k ∧ x % 10 + 10 * k < y % 10 + cin.toNat + 10 := by
  have hc := Bool.toNat_le cin
  simp only [sub8_eq, daaLow, bcd_toNat hx, bcd_toNat hy, decide_eq_true_eq, Bool.true_eq_false, false_and, or_false]
  split
  · exact ⟨1, by omega⟩
  · exact ⟨0, by omega⟩

theorem daaCarry_sub8 : daaCarry (sub8 (bcd x) (bcd y) cin).1 (sub8 (bcd x) (bcd y) cin).2 = decide (x < y + cin.toNat) := by
  have hc := Bool.toNat_le cin
  simp only [sub8_eq, daaCarry, bcd_toNat hx, bcd_toNat hy, Bool.not_true, Bool.false_and, Bool.or_false]
  apply decide_eq_decide.2
  omega

theorem daaResult_sub8 : daaResult (sub8 (bcd x) (bcd y) cin).1 (sub8 (bcd x) (bcd y) cin).2 =
    bcd ((x + 100 - y - cin.toNat) % 100) := by
  obtain ⟨k, hlow, hk⟩ := daaLow_sub8 cin hx hy
  have hc := Bool.toNat_le cin
  rw [daaResult, hlow, daaHigh, daaCarry_sub8 cin hx hy]
  simp only [sub8_eq, bcd_toNat hx, bcd_toNat hy, BitVec.toNat_ofInt, decide_eq_true_eq, if_true]
  apply ofInt_eq_bcd (x / 10 - y / 10) (x % 10 - y % 10 - cin.toNat) (-k) (if x < y + cin.toNat then -1 else 0)
  · omega
  · omega
  · omega
  · split <;> omega

end

end Sys2Proof.Machine
end

section
/-! SUPPORT. The 8-bit arithmetic and logic instructions (42_alu8.md R280 to R296) with a register, an immediate and a memory
operand. -/

namespace Sys2Proof.Machine

variable {s : State} {o : AluOp} {w : Byte} {x : Flags}

/-! ### An operation that leaves `w` and the flags `x` -/

theorem aluStep_eq (t : State) {v : Byte} (hr : t.regs = s.regs) (h : alu8 o s.regs.a v s.flags.c = (w, x)) :
    t.aluStep o v = (t.setReg .a w).setFlags x := by
  have hflags : t.flags = s.flags := congrArg (fun r : Regs => flagsOfByte r.f) hr
  simp only [State.aluStep, hr, hflags, h]

theorem exec_alu_reg {r : Reg8} (h : alu8 o s.regs.a (s.getReg r) s.flags.c = (w, x)) :
    exec (.alu o (.reg r)) s = .next { (s.setReg .a w).setFlags x with cycles := 4 } := by
  rw [exec_alu, ← aluStep_eq s rfl h]
  rfl

theorem exec_aluImm_eq {n : Byte} (h : alu8 o s.regs.a n s.flags.c = (w, x)) :
    exec (.aluImm o n) s = .next { (s.setReg .a w).setFlags x with cycles := 8 } := by
  rw [exec_aluImm, ← aluStep_eq s rfl h]
  rfl

theorem exec_alu_atHL (hread : CanRead s s.hl) (h : alu8 o s.regs.a (s.peek s.hl) s.flags.c = (w, x)) :
    exec (.alu o .atHL) s = .next { ((s.afterRead s.hl).setReg .a w).setFlags x with cycles := 8 } := by
  rw [exec_alu, ← aluStep_eq _ (State.afterRead_regs s s.hl) h]
  exact finish_memRead_ok hread _

theorem exec_alu_atHL_missed (h : ¬ CanRead s s.hl) : exec (.alu o .atHL) s = .next (s.readMissed s.hl) := by
  rw [exec_alu]
  exact finish_memRead_missed h _

theorem encode_alu (o : AluOp) (r : Reg8) : encode (.alu o (.reg r)) = [0b10#2 ++ aluBits o ++ r8Bits (.reg r)] := by
  cases o <;> cases r <;> rfl

/-- Settles O18: `add8_eq` at each operand, with no carry for ADD. -/
theorem addAndAdc : Obligations.AddAndAdc := fun _ r _ =>
  ⟨encode_alu .add r, exec_alu_reg (add8_eq _ _ false),
    rfl, exec_aluImm_eq (add8_eq _ _ false),
    rfl, fun h => exec_alu_atHL h (add8_eq _ _ false), exec_alu_atHL_missed,
    encode_alu .adc r, exec_alu_reg (add8_eq _ _ _),
    rfl, exec_aluImm_eq (add8_eq _ _ _),
    rfl, fun h => exec_alu_atHL h (add8_eq _ _ _), exec_alu_atHL_missed⟩

/-- CP's flags are those of SUB. -/
theorem alu8_cp (a v : Byte) (c : Bool) {y : Byte} (h : sub8 a v false = (y, x)) : alu8 .cp a v c = (a, x) :=
  congrArg (fun p : Byte × Flags => (a, p.2)) h

theorem exec_cp_atHL (hread : CanRead s s.hl) (h : sub8 s.regs.a (s.peek s.hl) false = (w, x)) :
    exec (.alu .cp .atHL) s = .next { (s.afterRead s.hl).setFlags x with cycles := 8 } := by
  have hself : (s.afterRead s.hl).setReg .a s.regs.a = s.afterRead s.hl := by
    rw [← State.afterRead_regs s s.hl]
    exact State.setReg_getReg _ .a
  rw [exec_alu_atHL hread (alu8_cp _ _ _ h), hself]

/-- Settles O19: `sub8_eq` at each operand, with no borrow for SUB and CP; CP writes to A what A holds. -/
theorem subSbcAndCp : Obligations.SubSbcAndCp := fun _ r _ =>
  ⟨encode_alu .sub r, exec_alu_reg (sub8_eq _ _ false),
    rfl, exec_aluImm_eq (sub8_eq _ _ false),
    rfl, fun h => exec_alu_atHL h (sub8_eq _ _ false), exec_alu_atHL_missed,
    encode_alu .sbc r, exec_alu_reg (sub8_eq _ _ _),
    rfl, exec_aluImm_eq (sub8_eq _ _ _),
    rfl, fun h => exec_alu_atHL h (sub8_eq _ _ _), exec_alu_atHL_missed,
    encode_alu .cp r, exec_alu_reg (alu8_cp _ _ _ (sub8_eq _ _ false)),
    rfl, exec_aluImm_eq (alu8_cp _ _ _ (sub8_eq _ _ false)),
    rfl, fun h => exec_cp_atHL h (sub8_eq _ _ false), exec_alu_atHL_missed⟩

/-- Settles O20: each operation is `logic8_eq` of its bitwise result. -/
theorem logicOperations : Obligations.LogicOperations := fun _ r _ =>
  ⟨encode_alu .and r, exec_alu_reg (logic8_eq _ true),
    rfl, exec_aluImm_eq (logic8_eq _ true),
    rfl, fun h => exec_alu_atHL h (logic8_eq _ true),
    encode_alu .xor r, exec_alu_reg (logic8_eq _ false),
    rfl, exec_aluImm_eq (logic8_eq _ false),
    rfl, fun h => exec_alu_atHL h (logic8_eq _ false),
    encode_alu .or r, exec_alu_reg (logic8_eq _ false),
    rfl, exec_aluImm_eq (logic8_eq _ false),
    rfl, fun h => exec_alu_atHL h (logic8_eq _ false),
    fun h _ _ => exec_alu_atHL_missed h⟩

/-! ### One read, one write at HL, then the rest of the instruction -/

theorem State.afterRead_hl {a : Word} : (s.afterRead a).hl = s.hl := by simp [State.hl]

theorem finish_modify_ok {cost : Nat} {f : Byte → State → Byte} {g : Byte → State → State → Access Unit}
    (h : CanModify s (f (s.peek s.hl) (s.afterRead s.hl))) :
    finish cost ((memRead s s.hl).bind fun v t => (memWrite t t.hl (f v t)).bind fun _ u => g v t u) =
      finish cost (g (s.peek s.hl) (s.afterRead s.hl) (s.afterModify (f (s.peek s.hl) (s.afterRead s.hl)))) := by
  rw [finish_memRead_ok h.1, State.afterRead_hl, memWrite_ok (canWrite_afterRead.2 h.2), Access.bind_ok]
  rfl

/-- The state of the read that misses, or of the write that does. -/
theorem finish_modify_missed {cost : Nat} {f : Byte → State → Byte} {g : Byte → State → State → Access Unit}
    (h : ¬ CanModify s (f (s.peek s.hl) (s.afterRead s.hl))) :
    finish cost ((memRead s s.hl).bind fun v t => (memWrite t t.hl (f v t)).bind fun _ u => g v t u) =
      .next (s.modifyMissed (f (s.peek s.hl) (s.afterRead s.hl))) := by
  by_cases hread : CanRead s s.hl
  · have hwrite : ¬ CanWrite (s.afterRead s.hl) s.hl (f (s.peek s.hl) (s.afterRead s.hl)) :=
      fun hw => h ⟨hread, canWrite_afterRead.1 hw⟩
    rw [finish_memRead_ok hread, State.afterRead_hl, memWrite_error hwrite, State.modifyMissed, if_pos hread]
    rfl
  · rw [finish_memRead_missed hread, State.modifyMissed, if_neg hread]

theorem State.afterModify_flags (v : Byte) : (s.afterModify v).flags = s.flags := by
  simp [State.afterModify, State.flags]

/-! ### INC and DEC -/

theorem exec_incR8_reg (r : Reg8) : exec (.incR8 (.reg r)) s =
    .next { (s.setReg r (s.getReg r + 1)).setFlags (inc8 (s.getReg r) s.flags).2 with cycles := 4 } := by
  rw [exec_incR8, ← State.setReg_flags s r (s.getReg r + 1)]
  rfl

theorem exec_incR8_atHL (h : CanModify s (s.peek s.hl + 1)) : exec (.incR8 .atHL) s =
    .next { (s.afterModify (s.peek s.hl + 1)).setFlags (inc8 (s.peek s.hl) s.flags).2 with cycles := 12 } := by
  rw [exec_incR8, ← State.afterModify_flags (s.peek s.hl + 1)]
  exact finish_modify_ok (f := fun v _ => v + 1) h

theorem exec_decR8_reg (r : Reg8) : exec (.decR8 (.reg r)) s =
    .next { (s.setReg r (s.getReg r - 1)).setFlags (dec8 (s.getReg r) s.flags).2 with cycles := 4 } := by
  rw [exec_decR8, ← State.setReg_flags s r (s.getReg r - 1)]
  rfl

theorem exec_decR8_atHL (h : CanModify s (s.peek s.hl - 1)) : exec (.decR8 .atHL) s =
    .next { (s.afterModify (s.peek s.hl - 1)).setFlags (dec8 (s.peek s.hl) s.flags).2 with cycles := 12 } := by
  rw [exec_decR8, ← State.afterModify_flags (s.peek s.hl - 1)]
  exact finish_modify_ok (f := fun v _ => v - 1) h

theorem encode_incR8 (k : R8) : encode (.incR8 k) = [0b00#2 ++ r8Bits k ++ 0b100#3] := by
  rcases k with (_ | _ | _ | _ | _ | _ | _) | _ <;> rfl

theorem encode_decR8 (k : R8) : encode (.decR8 k) = [0b00#2 ++ r8Bits k ++ 0b101#3] := by
  rcases k with (_ | _ | _ | _ | _ | _ | _) | _ <;> rfl

/-- Settles O21: the flags come from the operand's old value and the old C, which the write does not change. -/
theorem incAndDec : Obligations.IncAndDec := by
  intro s r incFlags decFlags up down
  have hinc (v : Byte) : (inc8 v s.flags).2 = incFlags v := by rw [inc8_eq]
  have hdec (v : Byte) : (dec8 v s.flags).2 = decFlags v := by rw [dec8_eq]
  simp only [← hinc, ← hdec]
  exact ⟨encode_incR8 _, exec_incR8_reg r,
    rfl, exec_incR8_atHL, fun h => (exec_incR8 s .atHL).trans (finish_modify_missed (f := fun v _ => v + 1) h),
    encode_decR8 _, exec_decR8_reg r,
    rfl, exec_decR8_atHL, fun h => (exec_decR8 s .atHL).trans (finish_modify_missed (f := fun v _ => v - 1) h)⟩

/-! ### DAA, CPL, SCF and CCF -/

theorem exec_daa (s : State) : exec .daa s = .next
    { (s.setReg .a (daaResult s.regs.a s.flags)).setFlags
        { z := decide (daaResult s.regs.a s.flags = 0), n := s.flags.n, h := false, c := daaCarry s.regs.a s.flags } with
      cycles := 4 } := by
  change decimalAdjust s = _
  simp only [decimalAdjust, daa8_eq, finish_ok]

theorem exec_cpl (s : State) : exec .cpl s = .next
    { (s.setReg .a (~~~s.regs.a)).setFlags { z := s.flags.z, n := true, h := true, c := s.flags.c } with cycles := 4 } := by
  have hnot : s.regs.a ^^^ 0xFF = ~~~s.regs.a := BitVec.xor_allOnes
  rw [← hnot]
  rfl

/-- Settles O22: DAA is `daa8_eq`; the others are the model's own updates. -/
theorem accumulatorAndCarryOperations : Obligations.AccumulatorAndCarryOperations := fun s =>
  ⟨rfl, rfl, rfl, rfl, exec_daa s, exec_cpl s, rfl, rfl⟩

/-! ### DAA after ADC and SBC -/

theorem exec_alu_reg_leaves {r : Reg8} {t : State} (h : alu8 o s.regs.a (s.getReg r) s.flags.c = (w, x))
    (hnext : exec (.alu o (.reg r)) s = .next t) : t.regs.a = w ∧ t.flags = x := by
  rw [exec_alu_reg h] at hnext
  cases hnext
  exact ⟨rfl, flagsOfByte_flagsToByte x⟩

theorem exec_daa_leaves (t : State) : ∃ u, exec .daa t = .next u ∧
    u.regs.a = daaResult t.regs.a t.flags ∧ u.flags.c = daaCarry t.regs.a t.flags :=
  ⟨_, exec_daa t, rfl, congrArg Flags.c (flagsOfByte_flagsToByte _)⟩

/-- DAA adjusts the result and the flags that the operation before it left. -/
theorem exec_daa_after_alu {r : Reg8} {t : State} {v : Byte} {carry : Bool}
    (h : alu8 o s.regs.a (s.getReg r) s.flags.c = (w, x)) (hv : daaResult w x = v) (hcarry : daaCarry w x = carry)
    (hnext : exec (.alu o (.reg r)) s = .next t) :
    ∃ u, exec .daa t = .next u ∧ u.regs.a = v ∧ u.flags.c = carry := by
  obtain ⟨rfl, rfl⟩ := exec_alu_reg_leaves h hnext
  exact hv ▸ hcarry ▸ exec_daa_leaves t

/-- Settles O23: ADC and SBC leave what `ofInt_eq_bcd` adjusts, through `daaResult_add8` and `daaResult_sub8`. -/
theorem daaGivesDecimalResults : Obligations.DaaGivesDecimalResults := by
  intro x y s t hx hy _ _ ha hb
  have hadc : alu8 .adc s.regs.a (s.getReg .b) s.flags.c = add8 (bcd x) (bcd y) s.flags.c := congrArg₂ (add8 · · _) ha hb
  have hsbc : alu8 .sbc s.regs.a (s.getReg .b) s.flags.c = sub8 (bcd x) (bcd y) s.flags.c := congrArg₂ (sub8 · · _) ha hb
  exact ⟨exec_daa_after_alu hadc (daaResult_add8 _ hx hy) (daaCarry_add8 _ hx hy),
    exec_daa_after_alu hsbc (daaResult_sub8 _ hx hy) (daaCarry_sub8 _ hx hy)⟩

end Sys2Proof.Machine
end

section
/-! SUPPORT. 16-bit arithmetic (43_alu16.md R320 to R323). -/

namespace Sys2Proof.Machine

variable {s : State}

theorem encode_addHl (r : Pair) : encode (.addHl r) = [0b00#2 ++ pairBits r ++ 0b1001#4] := by cases r <;> rfl

theorem encode_incPair (r : Pair) : encode (.incPair r) = [0b00#2 ++ pairBits r ++ 0b0011#4] := by cases r <;> rfl

theorem encode_decPair (r : Pair) : encode (.decPair r) = [0b00#2 ++ pairBits r ++ 0b1011#4] := by cases r <;> rfl

theorem addHl_eq (r : Pair) : addHl r s = .next
    { (s.setPair .hl (addHl16 (s.getPair .hl) (s.getPair r) s.flags).1).setFlags
        (addHl16 (s.getPair .hl) (s.getPair r) s.flags).2 with cycles := 8 } := rfl

theorem addSp_eq (e : Byte) : addSp e s = .next
    { (s.setPair .sp (BitVec.ofInt 16 (s.regs.sp.toNat + e.toInt))).setFlags (addSpOffset s.regs.sp e).2 with
      cycles := 16 } := by
  rw [← add_signExtend_eq_ofInt]
  rfl

/-- Settles O24: `addHl16` and `addSpOffset` have the flags of the rules, and SP's offset is the signed byte's integer. -/
theorem wordArithmetic : Obligations.WordArithmetic := fun s r e =>
  ⟨encode_addHl r, (exec_addHl s r).trans (addHl_eq r),
    encode_incPair r, exec_incPair s r,
    encode_decPair r, exec_decPair s r,
    rfl, addSp_eq e⟩

end Sys2Proof.Machine
end

section
/-! SUPPORT. Rotates, shifts and bits (44_rotate_shift_bit.md R340 to R355): the results as rotations of the byte, as arithmetic
on its value and bit by bit, and the instructions with a register and with the byte at HL. -/

namespace Sys2Proof.Machine

variable {s : State}

/-! ### The results (R340 to R352, R354, R355) -/

@[simp] theorem getLsbD_bitByte (c : Bool) (i : Nat) : (bitByte c).getLsbD i = (c && decide (i = 0)) := by
  cases c <;> simp [bitByte]

@[simp] theorem getElem_bitByte (c : Bool) {i : Nat} (h : i < 8) : (bitByte c)[i] = (c && decide (i = 0)) := by
  rw [← BitVec.getLsbD_eq_getElem, getLsbD_bitByte]

/-- Bytes with no bit in common join as the sum of their values. -/
theorem or_eq_ofNat_add {u v : Byte} {m n : Nat} (hu : u = BitVec.ofNat 8 m) (hv : v = BitVec.ofNat 8 n) (h : u &&& v = 0) :
    u ||| v = BitVec.ofNat 8 (m + n) := by
  rw [← BitVec.add_eq_or_of_and_eq_zero u v h, BitVec.ofNat_add, hu, hv]

theorem shiftLeft_one_eq_ofNat (v : Byte) : v <<< 1 = BitVec.ofNat 8 (2 * v.toNat) := by bv_omega

theorem ushiftRight_one_eq_ofNat (v : Byte) : v >>> 1 = BitVec.ofNat 8 (v.toNat / 2) := by bv_omega

/-- A shift left frees bit 0 for the bit shifted in. -/
theorem shiftLeft_or_bitByte (v : Byte) (c : Bool) :
    (v <<< 1) ||| bitByte c = BitVec.ofNat 8 (2 * v.toNat + c.toNat) := by
  refine or_eq_ofNat_add (shiftLeft_one_eq_ofNat v) (by cases c <;> rfl) ?_
  ext i hi
  simp +contextual

/-- A shift right frees bit 7 for the bit shifted in. -/
theorem ushiftRight_or_bitByte (v : Byte) (c : Bool) :
    (v >>> 1) ||| (bitByte c <<< 7) = BitVec.ofNat 8 (v.toNat / 2 + 128 * c.toNat) := by
  refine or_eq_ofNat_add (ushiftRight_one_eq_ofNat v) (by cases c <;> rfl) ?_
  ext i hi
  by_cases h : i < 7
  · simp [h]
  · simp [BitVec.getLsbD_of_ge v (1 + i) (by omega)]

/-- The low nibble goes up and the high nibble comes down. -/
theorem swapNibbles_eq_ofNat (v : Byte) :
    ((v &&& 0x0F) <<< 4) ||| (v >>> 4) = BitVec.ofNat 8 (v.toNat % 16 * 16 + v.toNat / 16) := by
  refine or_eq_ofNat_add ?_ (by bv_omega) ?_
  · apply BitVec.eq_of_toNat_eq
    simp [and_fifteen, Nat.shiftLeft_eq]
  · ext i hi
    by_cases h : i < 4
    · simp [h]
    · simp [BitVec.getLsbD_of_ge v (4 + i) (by omega)]

theorem ushiftRight_seven (v : Byte) : v >>> 7 = bitByte (v.getLsbD 7) := by
  ext i hi
  cases i with
  | zero => simp
  | succ i => simpa using BitVec.getLsbD_of_ge v _ (by omega)

theorem shiftLeft_seven (v : Byte) : v <<< 7 = bitByte (v.getLsbD 0) <<< 7 := by
  ext i hi
  by_cases h : i < 7
  · simp [h]
  · obtain rfl : i = 7 := by omega
    simp

theorem and_topBit (v : Byte) : v &&& (0x80 : Byte) = bitByte (v.getLsbD 7) <<< 7 := by
  have htop : (0x80 : Byte) = BitVec.twoPow 8 7 := rfl
  rw [htop, BitVec.and_twoPow]
  cases v.getLsbD 7 <;> rfl

/-- The sign bit is shifted in (R350). -/
theorem ushiftRight_or_signBit (v : Byte) : (v >>> 1) ||| (v &&& 0x80) = v.sshiftRight 1 := by
  rw [and_topBit]
  ext i hi
  rw [BitVec.getElem_sshiftRight]
  by_cases h : i < 7
  · simp [h, show 1 + i < 8 by omega]
  · obtain rfl : i = 7 := by omega
    simp [BitVec.msb_eq_getLsbD_last]

theorem rotate8_rlc (v : Byte) (c : Bool) : rotate8 .rlc v c = (v.rotateLeft 1, v.getLsbD 7) := by
  rw [rotate8, ← ushiftRight_seven]
  rfl

theorem rotate8_rrc (v : Byte) (c : Bool) : rotate8 .rrc v c = (v.rotateRight 1, v.getLsbD 0) := by
  rw [rotate8, ← shiftLeft_seven]
  rfl

theorem rotate8_rl (v : Byte) (c : Bool) :
    rotate8 .rl v c = (BitVec.ofNat 8 (2 * v.toNat + c.toNat), v.getLsbD 7) := by
  rw [rotate8, shiftLeft_or_bitByte]

theorem rotate8_rr (v : Byte) (c : Bool) :
    rotate8 .rr v c = (BitVec.ofNat 8 (v.toNat / 2 + 128 * c.toNat), v.getLsbD 0) := by
  rw [rotate8, ushiftRight_or_bitByte]

/-- The mask of RES and SET has bit `b` alone. -/
theorem getLsbD_bitMask (b : BitVec 3) (j : Nat) : ((1 : Byte) <<< b.toNat).getLsbD j = decide (j = b.toNat) := by
  have htwo := BitVec.getLsbD_twoPow (w := 8) b.toNat j
  rw [decide_eq_true b.isLt, Bool.true_and] at htwo
  exact htwo.trans (decide_eq_decide.2 eq_comm)

theorem getLsbD_resBit (v : Byte) (b : BitVec 3) (j : Nat) :
    (resBit v b).getLsbD j = (v.getLsbD j && decide (j ≠ b.toNat)) := by
  rw [resBit, BitVec.getLsbD_and, BitVec.getLsbD_not, getLsbD_bitMask]
  by_cases hj : j < 8
  · simp [hj]
  · simp [BitVec.getLsbD_of_ge v j (by omega)]

theorem getLsbD_setBit (v : Byte) (b : BitVec 3) (j : Nat) :
    (setBit v b).getLsbD j = (v.getLsbD j || decide (j = b.toNat)) := by
  rw [setBit, BitVec.getLsbD_or, getLsbD_bitMask]

/-! ### RLCA, RRCA, RLA and RRA (R340 to R343) -/

theorem rotateA_eq {o : RotOp} {w : Byte} {out : Bool} (h : rotate8 o s.regs.a s.flags.c = (w, out)) : rotateA o s = .next
    { (s.setReg .a w).setFlags { z := false, n := false, h := false, c := out } with cycles := 4 } := by
  rw [rotateA, h]
  rfl

/-- Settles O25: the four instructions rotate A as RLC, RRC, RL and RR do. -/
theorem rotatesOfA : Obligations.RotatesOfA := fun _ =>
  ⟨rfl, rfl, rfl, rfl, rotateA_eq (rotate8_rlc _ _), rotateA_eq (rotate8_rrc _ _), rotateA_eq (rotate8_rl _ _),
    rotateA_eq (rotate8_rr _ _)⟩

/-! ### The extended opcodes (R188) -/

theorem encode_of_decode_extended {i : Instr} {b : Byte} (h : decodeBytes 0xCB b 0 = i) : encode i = [0xCB, b] := by
  rw [← h, encode_decodeBytes, instrLength_cb]
  rfl

theorem encode_rot (o : RotOp) (k : R8) : encode (.rot o k) = [0xCB, 0b00#2 ++ rotBits o ++ r8Bits k] := by
  obtain ⟨-, -, -, -, -, -, -, hextended, -⟩ := opcodeFields
  exact encode_of_decode_extended (hextended o 0 k 0).1

theorem encode_bitResSet (b : BitVec 3) (k : R8) :
    encode (.bit b k) = [0xCB, 0b01#2 ++ b ++ r8Bits k] ∧ encode (.res b k) = [0xCB, 0b10#2 ++ b ++ r8Bits k] ∧
      encode (.set b k) = [0xCB, 0b11#2 ++ b ++ r8Bits k] := by
  obtain ⟨-, -, -, -, -, -, -, hextended, -⟩ := opcodeFields
  obtain ⟨-, hbit, hres, hset⟩ := hextended .rlc b k 0
  exact ⟨encode_of_decode_extended hbit, encode_of_decode_extended hres, encode_of_decode_extended hset⟩

theorem State.afterRead_flags (a : Word) : (s.afterRead a).flags = s.flags := by simp [State.flags]

/-! ### The rotates, shifts and SWAP (R344 to R352) -/

theorem exec_rot_reg (o : RotOp) (r : Reg8) : exec (.rot o (.reg r)) s = .next
    { (s.setReg r (rotate8 o (s.getReg r) s.flags.c).1).setFlags (rotateFlags (rotate8 o (s.getReg r) s.flags.c)) with
      cycles := 8 } := by
  rw [exec_rot]
  rfl

theorem exec_rot_atHL (o : RotOp) (h : CanModify s (rotate8 o (s.peek s.hl) s.flags.c).1) : exec (.rot o .atHL) s = .next
    { (s.afterModify (rotate8 o (s.peek s.hl) s.flags.c).1).setFlags (rotateFlags (rotate8 o (s.peek s.hl) s.flags.c)) with
      cycles := 16 } := by
  rw [exec_rot]
  rw [← State.afterRead_flags s.hl] at h ⊢
  exact finish_modify_ok (f := fun v t => (rotate8 o v t.flags.c).1) h

theorem exec_rot_atHL_missed (o : RotOp) (h : ¬ CanModify s (rotate8 o (s.peek s.hl) s.flags.c).1) :
    exec (.rot o .atHL) s = .next (s.modifyMissed (rotate8 o (s.peek s.hl) s.flags.c).1) := by
  rw [exec_rot]
  rw [← State.afterRead_flags s.hl] at h ⊢
  exact finish_modify_missed (f := fun v t => (rotate8 o v t.flags.c).1) h

/-- Settles O26: `rotate8` gives the byte and the bit shifted out, and the memory form is one read and one write at HL. -/
theorem extendedRotates : Obligations.ExtendedRotates :=
  ⟨fun v c => ⟨rotate8_rlc v c, rotate8_rrc v c, rotate8_rl v c, rotate8_rr v c,
      congrArg (·, _) (shiftLeft_one_eq_ofNat v), congrArg (·, _) (ushiftRight_or_signBit v),
      congrArg (·, _) (swapNibbles_eq_ofNat v), congrArg (·, _) (ushiftRight_one_eq_ofNat v)⟩,
    fun _ o r => ⟨encode_rot o (.reg r), exec_rot_reg o r, encode_rot o .atHL, exec_rot_atHL o, exec_rot_atHL_missed o⟩⟩

/-! ### BIT, RES and SET (R353 to R355) -/

theorem exec_bit_reg (b : BitVec 3) (r : Reg8) : exec (.bit b (.reg r)) s = .next
    { s.setFlags (bitFlags (s.getReg r) b s.flags) with cycles := 8 } := by
  rw [exec_bit]
  rfl

theorem exec_bit_atHL (b : BitVec 3) (h : CanRead s s.hl) : exec (.bit b .atHL) s = .next
    { (s.afterRead s.hl).setFlags (bitFlags (s.peek s.hl) b s.flags) with cycles := 12 } := by
  rw [exec_bit, ← State.afterRead_flags s.hl]
  exact finish_memRead_ok h _

theorem exec_bit_atHL_missed (b : BitVec 3) (h : ¬ CanRead s s.hl) : exec (.bit b .atHL) s = .next (s.readMissed s.hl) := by
  rw [exec_bit]
  exact finish_memRead_missed h _

theorem Access.bind_ok_right (x : Access Unit) : (x.bind fun _ t => .ok () t) = x := by cases x <;> rfl

/-- One read, then one write that ends the instruction. -/
theorem finish_update_ok {cost : Nat} (f : Byte → Byte) (h : CanModify s (f (s.peek s.hl))) :
    finish cost ((memRead s s.hl).bind fun v t => memWrite t t.hl (f v)) =
      .next { s.afterModify (f (s.peek s.hl)) with cycles := cost } := by
  rw [← finish_ok, ← finish_modify_ok (f := fun v _ => f v) (g := fun _ _ t => .ok () t) h]
  simp only [Access.bind_ok_right]

theorem finish_update_missed {cost : Nat} (f : Byte → Byte) (h : ¬ CanModify s (f (s.peek s.hl))) :
    finish cost ((memRead s s.hl).bind fun v t => memWrite t t.hl (f v)) = .next (s.modifyMissed (f (s.peek s.hl))) := by
  simpa only [Access.bind_ok_right] using finish_modify_missed (f := fun v _ => f v) (g := fun _ _ t => .ok () t) h

/-- Settles O27: RES and SET at HL are `finish_update_ok`, which writes whether or not the bit changes. -/
theorem bitResAndSet : Obligations.BitResAndSet := by
  refine ⟨fun v b j => ⟨getLsbD_resBit v b j, getLsbD_setBit v b j⟩, fun s b r => ?_⟩
  obtain ⟨hbit, hres, hset⟩ := encode_bitResSet b (.reg r)
  obtain ⟨hbitHL, hresHL, hsetHL⟩ := encode_bitResSet b .atHL
  exact ⟨hbit, exec_bit_reg b r, hbitHL, exec_bit_atHL b, exec_bit_atHL_missed b,
    hres, exec_res s b (.reg r), hresHL,
    fun h => (exec_res s b .atHL).trans (finish_update_ok (resBit · b) h),
    fun h => (exec_res s b .atHL).trans (finish_update_missed (resBit · b) h),
    hset, exec_set s b (.reg r), hsetHL,
    fun h => (exec_set s b .atHL).trans (finish_update_ok (setBit · b) h),
    fun h => (exec_set s b .atHL).trans (finish_update_missed (setBit · b) h)⟩

end Sys2Proof.Machine
end

section
/-! SUPPORT. Control transfers (45_control.md R380 to R390): the jumps, and the calls and returns as a push or a pop and a jump. -/

namespace Sys2Proof.Machine

variable {s : State} {cc : Cond} {nn w : Word} {cost : Nat}

/-! ### Jumps (R380 to R384) -/

theorem relTarget_eq_ofInt (pc : Word) (e : Byte) : relTarget pc e = BitVec.ofInt 16 (pc.toNat + e.toInt) :=
  add_signExtend_eq_ofInt pc e

theorem jumpRel_eq (e : Byte) : jumpRel e s = .next
    { s with regs := { s.regs with pc := BitVec.ofInt 16 (s.regs.pc.toNat + e.toInt) }, cycles := 12 } := by
  rw [← relTarget_eq_ofInt]
  rfl

theorem exec_jpIf_taken (h : condHolds cc s.flags = true) : exec (.jpIf cc nn) s = jumpTo nn s :=
  (exec_jpIf s cc nn).trans (if_pos h)

theorem exec_jpIf_untaken (h : condHolds cc s.flags = false) : exec (.jpIf cc nn) s = .next { s with cycles := 12 } :=
  (exec_jpIf s cc nn).trans (if_neg (ne_true_of_eq_false h))

theorem exec_jrIf_taken {e : Byte} (h : condHolds cc s.flags = true) : exec (.jrIf cc e) s = jumpRel e s :=
  (exec_jrIf s cc e).trans (if_pos h)

theorem exec_jrIf_untaken {e : Byte} (h : condHolds cc s.flags = false) : exec (.jrIf cc e) s = .next { s with cycles := 8 } :=
  (exec_jrIf s cc e).trans (if_neg (ne_true_of_eq_false h))

theorem encode_jpIf (cc : Cond) (nn : Word) :
    encode (.jpIf cc nn) = [0b110#3 ++ condBits cc ++ 0b010#3, loByte nn, hiByte nn] := by cases cc <;> rfl

theorem encode_jrIf (cc : Cond) (e : Byte) : encode (.jrIf cc e) = [0b001#3 ++ condBits cc ++ 0b000#3, e] := by
  cases cc <;> rfl

/-- Settles O28: a taken conditional jump is the jump without a condition, and `jumpRel_eq` reads the byte as signed. -/
theorem jumpsSetPcAlone : Obligations.JumpsSetPcAlone := fun _ cc nn e =>
  ⟨rfl, rfl, rfl, encode_jpIf cc nn, encode_jrIf cc e, rfl, rfl,
    fun h => ⟨exec_jpIf_taken h, (exec_jrIf_taken h).trans (jumpRel_eq e)⟩,
    fun h => ⟨exec_jpIf_untaken h, exec_jrIf_untaken h⟩,
    jumpRel_eq e⟩

/-! ### A push or a pop, then the rest of the instruction -/

theorem finish_push16_ok (h : CanPush s w) (f : Unit → State → Access Unit) :
    finish cost ((push16 s w).bind f) = finish cost (f () (s.afterPush w)) := by
  rw [push16_ok h, Access.bind_ok]

theorem finish_push16_missed (h : ¬ CanPush s w) (f : Unit → State → Access Unit) :
    finish cost ((push16 s w).bind f) = .next (s.pushMissed w) := by
  obtain ⟨e, t, hpush, hraise⟩ := push16_error h
  rw [hpush, Access.bind_error, finish_error, hraise]

theorem finish_pop16_ok (h : CanPop s) (f : Word → State → Access Unit) :
    finish cost ((pop16 s).bind f) = finish cost (f s.topWord s.afterPop) := by
  rw [pop16_ok h, Access.bind_ok]

theorem finish_pop16_missed (h : ¬ CanPop s) (f : Word → State → Access Unit) :
    finish cost ((pop16 s).bind f) = .next s.popMissed := by
  obtain ⟨e, t, hpop, hraise⟩ := pop16_error h
  rw [hpop, Access.bind_error, finish_error, hraise]

/-! ### Calls and restarts (R385, R386, R390) -/

theorem finish_callBody_ok (h : CanPush s s.regs.pc) : finish cost (callBody nn s) = .next
    { s.afterPush s.regs.pc with regs := { s.regs with sp := s.regs.sp - 2, pc := nn }, cycles := cost } := by
  rw [callBody, finish_push16_ok h, State.setPc, State.afterPush_regs, finish_ok]

theorem finish_callBody_missed (h : ¬ CanPush s s.regs.pc) :
    finish cost (callBody nn s) = .next (s.pushMissed s.regs.pc) := finish_push16_missed h _

theorem exec_callIf (s : State) (cc : Cond) (nn : Word) : exec (.callIf cc nn) s = callIf cc nn s := by cases cc <;> rfl

theorem exec_callIf_taken (h : condHolds cc s.flags = true) : exec (.callIf cc nn) s = call nn s :=
  (exec_callIf s cc nn).trans (if_pos h)

theorem exec_callIf_untaken (h : condHolds cc s.flags = false) : exec (.callIf cc nn) s = .next { s with cycles := 12 } :=
  (exec_callIf s cc nn).trans (if_neg (ne_true_of_eq_false h))

theorem rstTarget_eq_ofNat (t : BitVec 3) : rstTarget t = BitVec.ofNat 16 (8 * t.toNat) := by
  rw [← rstTarget_toNat, BitVec.ofNat_toNat, BitVec.setWidth_eq]

theorem exec_rst (s : State) (t : BitVec 3) :
    exec (.rst t) s = finish 16 (callBody (BitVec.ofNat 16 (8 * t.toNat)) s) := by
  have hrestart : exec (.rst t) s = restart t s := by induction t using forall_bitNumber <;> rfl
  rw [hrestart, restart, rstTarget_eq_ofNat]

theorem encode_callIf (cc : Cond) (nn : Word) :
    encode (.callIf cc nn) = [0b110#3 ++ condBits cc ++ 0b100#3, loByte nn, hiByte nn] := by cases cc <;> rfl

theorem encode_rst (t : BitVec 3) : encode (.rst t) = [0b11#2 ++ t ++ 0b111#3] := by
  induction t using forall_bitNumber <;> rfl

/-- Settles O29: CALL, a taken CALL cc and RST run one body at their targets, `finish_callBody_ok` or `finish_callBody_missed`. -/
theorem callsAndRestarts : Obligations.CallsAndRestarts := fun s _ nn t =>
  ⟨fun h => ⟨finish_callBody_ok h, fun hcc => (exec_callIf_taken hcc).trans (finish_callBody_ok h),
      (exec_rst s t).trans (finish_callBody_ok h)⟩,
    fun h => ⟨finish_callBody_missed h, fun hcc => (exec_callIf_taken hcc).trans (finish_callBody_missed h),
      (exec_rst s t).trans (finish_callBody_missed h)⟩,
    exec_callIf_untaken, encode_rst t, rfl, encode_callIf _ nn⟩

/-! ### Returns (R387 to R389, R442) -/

theorem finish_retBody_ok (h : CanPop s) : finish cost (retBody s) = .next
    { s.afterPop with regs := { s.regs with sp := s.regs.sp + 2, pc := s.topWord }, cycles := cost } := by
  rw [retBody, finish_pop16_ok h, State.setPc, State.afterPop_regs, finish_ok]

theorem finish_retBody_missed (h : ¬ CanPop s) : finish cost (retBody s) = .next s.popMissed := finish_pop16_missed h _

theorem exec_retIf_taken (h : condHolds cc s.flags = true) : exec (.retIf cc) s = finish 20 (retBody s) :=
  (exec_retIf s cc).trans (if_pos h)

theorem exec_retIf_untaken (h : condHolds cc s.flags = false) : exec (.retIf cc) s = .next { s with cycles := 8 } :=
  (exec_retIf s cc).trans (if_neg (ne_true_of_eq_false h))

theorem reti_ok (h : CanPop s) : reti s = .next
    { s.afterPop with
        regs := { s.regs with sp := s.regs.sp + 2, pc := s.topWord }
        ime := true
        imePending := false
        cycles := 16 } := by
  rw [reti, returnFromInterrupt_ok h, State.afterPop_regs, finish_ok]

theorem reti_missed (h : ¬ CanPop s) : reti s = .next s.popMissed := finish_pop16_missed h _

theorem encode_retIf (cc : Cond) : encode (.retIf cc) = [0b110#3 ++ condBits cc ++ 0b000#3] := by cases cc <;> rfl

/-- Settles O30: RET and a taken RET cc run one body, and RETI is `returnFromInterrupt_ok`, which sets IME with pc. -/
theorem returnsPopPc : Obligations.ReturnsPopPc := fun _ cc =>
  ⟨rfl, rfl, encode_retIf cc,
    fun h => ⟨finish_retBody_ok h, fun hcc => (exec_retIf_taken hcc).trans (finish_retBody_ok h), reti_ok h⟩,
    fun h => ⟨finish_retBody_missed h, reti_missed h, fun hcc => (exec_retIf_taken hcc).trans (finish_retBody_missed h)⟩,
    exec_retIf_untaken⟩

end Sys2Proof.Machine
end

section
/-! SUPPORT. One step (60_exceptions.md R430, R431) and the system instructions (46_system.md R410 to R415). -/

namespace Sys2Proof.Machine

variable {s : State} {cost : Nat}

/-! ### The fetch and the phases of a step (R430, R431) -/

/-- A step begins with the fetch of the opcode. -/
theorem fetchInstr_missed_opcode (h : ¬ CanRead s s.regs.pc) :
    fetchInstr s = .error (.mbcNotLoaded s.regs.pc) (s.afterRead s.regs.pc) := by
  rw [fetchInstr, fetchOpcode, memRead_error h]
  rfl

theorem step_of_fetch_ok {i : Instr} {t : State} (hrun : s.runState = .running) (h : fetchInstr s = .ok i t) :
    step s = finishStep s.imePending (exec i t) := by
  simp only [step, hrun, h]

theorem step_of_fetch_error {e : Fault} {t : State} (hrun : s.runState = .running) (h : fetchInstr s = .error e t) :
    step s = .next (t.raise e) := by
  simp only [step, hrun, h]

/-- Three bytes decode to the instruction at their front, which leaves the bytes past its length. -/
theorem decode_three (op b1 b2 : Byte) :
    decode [op, b1, b2] = .ok (decodeBytes op b1 b2, [op, b1, b2].drop (instrLength op)) := by
  have h := decode_take_append op b1 b2 ([op, b1, b2].drop (instrLength op))
  rwa [List.take_append_drop] at h

/-- Settles O5: `fetchInstr_ok` and `fetchInstr_missed` say what the fetch of the decoded bytes leaves. -/
theorem stepRunsDecodedInstruction : Obligations.StepRunsDecodedInstruction := by
  refine fun s hrun => ⟨fun i rest hdecode hread => ?_, fun hmiss => step_of_fetch_error hrun (fetchInstr_missed_opcode hmiss),
    fun k h1 hk hread hmiss => step_of_fetch_error hrun (fetchInstr_missed h1 hk hread hmiss)⟩
  rw [State.nextBytes, decode_three] at hdecode
  cases hdecode
  have hlength : 3 - ([s.peek (s.fetchAddr 0), s.peek (s.fetchAddr 1), s.peek (s.fetchAddr 2)].drop
      (instrLength (s.peek (s.fetchAddr 0)))).length = instrLength (s.peek (s.fetchAddr 0)) := by
    rcases instrLength_cases (s.peek (s.fetchAddr 0)) with hl | hl | hl <;> rw [hl] <;> rfl
  rw [hlength] at hread ⊢
  exact step_of_fetch_ok hrun (fetchInstr_ok hread)

theorem eiDelay_cycles (p : Bool) (s : State) : (eiDelay p s).cycles = s.cycles := by
  unfold eiDelay
  split <;> rfl

/-- Settles O6: the run state alone selects what a step does, and an error ends it. -/
theorem stepPhasesInOrder : Obligations.StepPhasesInOrder := by
  refine fun s p => ⟨fun h => ?_, fun e h => ⟨?_, ?_⟩, fun h => ?_⟩
  · simp only [step, h]
  · simp only [step, h]
  · simp only [finishStep, afterExecute, h]
  · have hafter : afterExecute p s = interruptPhase (advanceDevices (eiDelay p s).cycles (eiDelay p s)) := by
      cases hr : s.runState with
      | faulted e => simp [Safe, hr] at h
      | _ => simp only [afterExecute, hr]
    rw [finishStep, hafter, eiDelay_cycles, advanceDevices]

/-! ### EI and DI (R413, R414) -/

/-- A one-byte instruction needs the read of its opcode alone. -/
theorem fetchInstr_one (h : CanRead s s.regs.pc) (hl : instrLength (s.peek s.regs.pc) = 1) :
    fetchInstr s = .ok (decodeBytes (s.peek s.regs.pc) 0 0) (s.afterFetch 1) := by
  rw [fetchInstr, fetchOpcode_ok h, Access.bind_ok, if_pos hl]

/-- Settles O7: EI sets `ime_pending` in its own step, so `eiDelay` sees it set at the start of the next. -/
theorem eiDelaysByOneInstruction : Obligations.EiDelaysByOneInstruction := by
  refine fun s => ⟨rfl, rfl, rfl, rfl, rfl, fun h => ?_, fun h => ?_, fun hrun hread hop => ?_⟩
  · simp [eiDelay, h]
  · simp [eiDelay, h]
  · have hfetch := fetchInstr_one hread (by rw [hop]; decide)
    rw [hop] at hfetch
    exact step_of_fetch_ok hrun hfetch

/-! ### NOP, HALT and STOP (R410 to R412) -/

theorem haltCpu_armed (h : s.params.haltBug = true ∧ s.ime = false ∧ s.pendingIrqs ≠ 0) :
    haltCpu s = .next { s with haltBugArmed := true, cycles := 4 } := by
  have hcond : (s.params.haltBug && !s.ime && s.pendingIrqs != 0) = true := by simpa [and_assoc] using h
  rw [haltCpu, if_pos hcond, finish_ok]

theorem haltCpu_halted (h : ¬ (s.params.haltBug = true ∧ s.ime = false ∧ s.pendingIrqs ≠ 0)) :
    haltCpu s = .next { s with runState := .halted, cycles := 4 } := by
  have hcond : (s.params.haltBug && !s.ime && s.pendingIrqs != 0) ≠ true := by simpa [and_assoc] using h
  rw [haltCpu, if_neg hcond, finish_ok]

theorem stopCpu_halt (h : s.params.stopMode = .halt) : stopCpu s = .next { s with runState := .halted, cycles := 4 } := by
  rw [stopCpu, h]
  rfl

theorem stopCpu_nop (h : s.params.stopMode = .nop) : stopCpu s = .next { s with cycles := 4 } := by
  rw [stopCpu, h]
  rfl

/-- Settles O31: HALT and STOP by the two cases of their parameters. -/
theorem nopHaltAndStop : Obligations.NopHaltAndStop :=
  fun _ _ => ⟨rfl, rfl, rfl, rfl, haltCpu_armed, haltCpu_halted, stopCpu_halt, stopCpu_nop⟩

/-! ### The lone byte 0xCB (R415) -/

/-- The fields g, y and r of an extended opcode (30_encoding.md R188). -/
theorem extendedFields (b : Byte) : b.extractLsb' 6 2 ++ b.extractLsb' 3 3 ++ b.extractLsb' 0 3 = b := by
  revert b
  decide

theorem r8Bits_r8OfBits (r : BitVec 3) : r8Bits (r8OfBits r) = r := by
  revert r
  decide

theorem rotBits_rotOpOfBits (y : BitVec 3) : rotBits (rotOpOfBits y) = y := by
  revert y
  decide

/-- The map's cell of an extended opcode runs the operation its fields select. -/
theorem exec_decodeExtended (b : Byte) (s : State) : exec (decodeExtended b) s = extended b s := by
  obtain ⟨-, -, -, -, -, -, -, hmap, -⟩ := opcodeFields
  obtain ⟨hrot, hbit, hres, hset⟩ := hmap (rotOpOfBits (b.extractLsb' 3 3)) (b.extractLsb' 3 3) (r8OfBits (b.extractLsb' 0 3)) 0
  rw [r8Bits_r8OfBits] at hrot hbit hres hset
  rw [rotBits_rotOpOfBits] at hrot
  have hb := extendedFields b
  have hg : ∀ g : BitVec 2, g = 0#2 ∨ g = 1#2 ∨ g = 2#2 ∨ g = 3#2 := by decide
  change exec (decodeBytes 0xCB b 0) s = _
  unfold extended
  obtain hg | hg | hg | hg := hg (b.extractLsb' 6 2) <;> rw [hg] at hb ⊢
  · rw [hb] at hrot
    exact (congrArg (exec · s) hrot).trans (exec_rot s _ _)
  · rw [hb] at hbit
    exact (congrArg (exec · s) hbit).trans (exec_bit s _ _)
  · rw [hb] at hres
    exact (congrArg (exec · s) hres).trans (exec_res s _ _)
  · rw [hb] at hset
    exact (congrArg (exec · s) hset).trans (exec_set s _ _)

/-- With a cartridge loaded, the access gives a value and leaves the run state. -/
def Completes {α : Type} (s : State) (x : Access α) : Prop := ∃ v t, x = .ok v t ∧ CartLoaded t ∧ t.runState = s.runState

theorem Completes.bind {α β : Type} {x : Access α} {f : α → State → Access β} (hx : Completes s x)
    (hf : ∀ v t, CartLoaded t → Completes t (f v t)) : Completes s (x.bind f) := by
  obtain ⟨v, t, rfl, hc, hr⟩ := hx
  obtain ⟨w, u, hu, hc', hr'⟩ := hf v t hc
  exact ⟨w, u, hu, hc', hr'.trans hr⟩

theorem readR8_completes (h : CartLoaded s) (k : R8) : Completes s (readR8 s k) := by
  cases k with
  | reg r => exact ⟨_, _, rfl, h, rfl⟩
  | atHL => exact ⟨_, _, memRead_ok (Or.inl h), by simpa [CartLoaded] using h, by simp⟩

theorem writeR8_completes (h : CartLoaded s) (k : R8) (v : Byte) : Completes s (writeR8 s k v) := by
  cases k with
  | reg r => exact ⟨_, _, rfl, by simpa [CartLoaded] using h, by simp⟩
  | atHL => exact ⟨_, _, memWrite_ok (Or.inl h), by simpa [CartLoaded] using h, by simp⟩

theorem Completes.finish {x : Access Unit} (hx : Completes s x) (cost : Nat) :
    ∃ t, finish cost x = .next t ∧ t.runState = s.runState ∧ t.cycles = cost := by
  obtain ⟨_, t, rfl, -, hr⟩ := hx
  exact ⟨_, rfl, hr, rfl⟩

/-- An extended instruction costs 8 cycles with a register, 12 or 16 with the byte at HL. -/
theorem extended_completes (h : CartLoaded s) (b : Byte) :
    ∃ t, extended b s = .next t ∧ t.runState = s.runState ∧ 8 ≤ t.cycles ∧ t.cycles ≤ 16 := by
  have hcost (k : R8) (m : Nat) (hm : 8 ≤ m ∧ m ≤ 16) : 8 ≤ costR8 k 8 m ∧ costR8 k 8 m ≤ 16 := by
    cases k with
    | reg r => exact ⟨le_rfl, Nat.le_add_left 8 8⟩
    | atHL => exact hm
  have hfinish {k : R8} {m : Nat} {x : Access Unit} (hm : 8 ≤ m ∧ m ≤ 16) (hx : Completes s x) :
      ∃ t, finish (costR8 k 8 m) x = .next t ∧ t.runState = s.runState ∧ 8 ≤ t.cycles ∧ t.cycles ≤ 16 := by
    obtain ⟨t, ht, hr, hc⟩ := hx.finish (costR8 k 8 m)
    exact ⟨t, ht, hr, hc ▸ hcost k m hm⟩
  have hread := readR8_completes h (r8OfBits (b.extractLsb' 0 3))
  unfold extended
  simp only
  split
  · exact hfinish (by decide) (hread.bind fun _ _ ht => (writeR8_completes ht _ _).bind fun _ _ hu => ⟨_, _, rfl, hu, rfl⟩)
  · split
    · exact hfinish (by decide) (hread.bind fun _ _ ht => ⟨_, _, rfl, ht, rfl⟩)
    · split
      · exact hfinish (by decide) (hread.bind fun _ _ ht => writeR8_completes ht _ _)
      · exact hfinish (by decide) (hread.bind fun _ _ ht => writeR8_completes ht _ _)

/-- An instruction answers a next state whatever the state is. -/
theorem true_closed : Closed fun _ => True := by constructor <;> intros <;> trivial

theorem prefixed_of_canRead (h : CanRead s s.regs.pc) :
    prefixed s = extended (s.peek s.regs.pc) { s.afterRead s.regs.pc with regs := { s.regs with pc := s.regs.pc + 1 } } := by
  rw [prefixed, fetch8_ok h, State.setPc, State.afterRead_regs]

theorem prefixed_missed (h : ¬ CanRead s s.regs.pc) : prefixed s = .next (s.readMissed s.regs.pc) := by
  rw [prefixed, fetch8, memRead_error h]
  rfl

/-- Settles O32: the cell of the second byte runs `extended`, as `prefixed` does, whose costs `extended_completes` bounds. -/
theorem prefixRunsTheExtendedInstruction : Obligations.PrefixRunsTheExtendedInstruction := by
  refine fun s => ⟨rfl, fun hread => ?_, prefixed_missed⟩
  change prefixed s = _ ∧ ∃ t, prefixed s = .next t ∧ _
  rw [prefixed_of_canRead hread, exec_decodeExtended]
  refine ⟨rfl, ?_⟩
  by_cases hcart : CartLoaded s
  · obtain ⟨t, ht, hr, hcost⟩ := extended_completes
      (s := { s.afterRead s.regs.pc with regs := { s.regs with pc := s.regs.pc + 1 } })
      (by simpa [CartLoaded] using hcart) (s.peek s.regs.pc)
    refine ⟨t, ht, fun hsafe _ => ⟨?_, hcost⟩⟩
    have hr' : t.runState = s.runState := hr.trans (State.afterRead_runState s s.regs.pc)
    rwa [Safe, hr']
  · obtain ⟨t, ht, -⟩ := extended_closed true_closed (s.peek s.regs.pc)
      (s := { s.afterRead s.regs.pc with regs := { s.regs with pc := s.regs.pc + 1 } }) trivial
    exact ⟨t, ht, fun _ hload => absurd hload hcart⟩

end Sys2Proof.Machine
end

section
/-! SUPPORT. The interrupt phase (60_exceptions.md R435 to R438): the pending source of the lowest bit, wake and dispatch. -/

namespace Sys2Proof.Machine

variable {s t : State} {k : Irq}

/-! ### The pending source (R435, R438) -/

/-- The source of the lowest bit set. -/
theorem firstIrq_eq_some_iff : s.firstIrq = some k ↔
    s.pendingIrqs.getLsbD (irqBit k) = true ∧ ∀ j < irqBit k, s.pendingIrqs.getLsbD j = false := by
  unfold State.firstIrq
  simp only
  generalize s.pendingIrqs = p
  revert p
  cases k <;> decide

theorem firstIrq_eq_none_iff : s.firstIrq = none ↔ s.pendingIrqs = 0 := by
  unfold State.firstIrq
  simp only
  generalize s.pendingIrqs = p
  revert p
  decide

theorem pendingIrqs_getLsbD {b : Nat} (hb : b < 5) :
    s.pendingIrqs.getLsbD b = (s.bus.ieReg.getLsbD b && s.bus.ifReg.getLsbD b) := by
  simp [State.pendingIrqs, hb]

/-! ### Wake and dispatch (R436, R437) -/

theorem State.wake_eq (s : State) :
    s.wake = { s with runState := if s.runState = .halted then .running else s.runState } := by
  unfold State.wake
  split
  · next h => rw [if_pos h]
  · next h => rw [if_neg (by simp [h])]
  · next h => rw [if_neg (by simp [h])]

@[simp] theorem State.afterPush_cycles (w : Word) : (s.afterPush w).cycles = s.cycles := by simp [State.afterPush]

@[simp] theorem State.pushMissed_cycles (w : Word) : (s.pushMissed w).cycles = s.cycles := by
  unfold State.pushMissed
  split <;> simp [State.writeMissed]

theorem dispatch_missed (h : ¬ CanPush s s.regs.pc) :
    ∃ e u, dispatch k s = .error e u ∧ u.raise e = ({ s with ime := false } : State).pushMissed s.regs.pc := by
  obtain ⟨e, u, hpush, hraise⟩ := push16_error (s := { s with ime := false }) h
  exact ⟨e, u, by rw [dispatch, hpush]; rfl, hraise⟩

theorem dispatch_cycles (h : dispatch k s = .ok () t) : t.cycles = s.cycles := by
  by_cases hpush : CanPush s s.regs.pc
  · rw [dispatch_ok hpush] at h
    cases h
    simp
  · obtain ⟨e, u, hmiss, -⟩ := dispatch_missed (k := k) hpush
    rw [hmiss] at h
    cases h

/-! ### The phase (R430, R435 to R438) -/

theorem interruptPhase_none (h : s.pendingIrqs = 0) : interruptPhase s = s := by
  rw [interruptPhase, firstIrq_eq_none_iff.2 h]

theorem interruptPhase_wakes (h : s.pendingIrqs ≠ 0) (hime : s.ime = false) : interruptPhase s = s.wake := by
  cases hk : s.firstIrq with
  | none => exact absurd (firstIrq_eq_none_iff.1 hk) h
  | some k =>
    rw [interruptPhase, hk]
    simp [hime]

theorem interruptPhase_dispatched (hk : s.firstIrq = some k) (hime : s.ime = true) (h : dispatch k s.wake = .ok () t) :
    interruptPhase s = advanceDevices 20 { t with cycles := s.cycles + 20 } := by
  have hcycles : t.cycles = s.cycles := (dispatch_cycles h).trans (State.wake_cycles s)
  rw [interruptPhase, hk]
  simp only [State.wake_ime, hime, if_true, h, hcycles]

theorem interruptPhase_missed {e : Fault} (hk : s.firstIrq = some k) (hime : s.ime = true)
    (h : dispatch k s.wake = .error e t) : interruptPhase s = t.raise e := by
  rw [interruptPhase, hk]
  simp only [State.wake_ime, hime, if_true, h]

/-- Settles O8: the pending source selects the phase's branch, and a dispatch keeps the step's cycles. -/
theorem interruptPhaseWakesAndDispatches : Obligations.InterruptPhaseWakesAndDispatches := by
  refine fun s => ⟨interruptPhase_none, fun h hime => ?_, fun k => firstIrq_eq_some_iff, fun b hb => pendingIrqs_getLsbD hb,
    fun k hk hime => ⟨fun t ht => interruptPhase_dispatched hk hime ht, fun e t ht => interruptPhase_missed hk hime ht⟩⟩
  rw [interruptPhase_wakes h hime, State.wake_eq]
  split <;> rfl

/-- Settles O9: a dispatch is a push and a jump, and the wake before it changes the run state alone. -/
theorem dispatchTakesTheInterrupt : Obligations.DispatchTakesTheInterrupt := by
  refine fun s k => ⟨by cases k <;> rfl, dispatch_ok, dispatch_missed, fun hime hk hpush => ?_⟩
  have hwake : CanPush s.wake s.wake.regs.pc := by
    rw [State.wake_eq]
    exact hpush
  have hafter := State.afterPush_withRunState (s := { s with ime := false }) s.regs.pc
    (if s.runState = .halted then .running else s.runState)
  rw [interruptPhase_dispatched hk hime (dispatch_ok hwake), State.wake_eq]
  simp only at hafter ⊢
  rw [hafter]
  rfl

end Sys2Proof.Machine
end

section
/-! SUPPORT. The divider and the timer as counters of cycles (60_exceptions.md R450 to R456). -/

namespace Sys2Proof.Machine

variable {s : State}

/-- The state with DIV and the two accumulators set, the fields of the timer that TIMA's increments neither read nor write. -/
def State.withTimerCounts (s : State) (div : Byte) (divAcc timaAcc : Nat) : State :=
  { s with bus := { s.bus with timer := { s.bus.timer with div := div, divAcc := divAcc, timaAcc := timaAcc } } }

theorem timaIncrement_withTimerCounts (d : Byte) (a b : Nat) :
    timaIncrement (s.withTimerCounts d a b) = (timaIncrement s).withTimerCounts d a b := by
  unfold timaIncrement
  by_cases h : s.bus.timer.tima = 0xFF <;> simp only [State.withTimerCounts, h, if_true, if_false, State.requestInterrupt]

theorem timaIncrements_withTimerCounts (n : Nat) (d : Byte) (a b : Nat) :
    timaIncrements n (s.withTimerCounts d a b) = (timaIncrements n s).withTimerCounts d a b := by
  induction n generalizing s with
  | zero => rfl
  | succ n ih => rw [timaIncrements, timaIncrement_withTimerCounts, ih, timaIncrements]

theorem timaIncrements_add (m n : Nat) : timaIncrements (m + n) s = timaIncrements n (timaIncrements m s) := by
  induction m generalizing s with
  | zero => rw [Nat.zero_add, timaIncrements]
  | succ m ih => rw [Nat.succ_add, timaIncrements, ih, timaIncrements]

theorem timaIncrement_tac : (timaIncrement s).bus.timer.tac = s.bus.timer.tac := by
  unfold timaIncrement
  simp only
  split <;> rfl

theorem timaIncrements_tac (n : Nat) : (timaIncrements n s).bus.timer.tac = s.bus.timer.tac := by
  induction n generalizing s with
  | zero => rfl
  | succ n ih => rw [timaIncrements, ih, timaIncrement_tac]

/-- TIMA's increments among the next `c` cycles: one for each whole period, none while TAC bit 2 is 0 (R455). -/
def timaCount (x : Timer) (c : Nat) : Nat := if x.tac.getLsbD 2 then (x.timaAcc + c) / timaPeriod x.tac else 0

/-- TIMA's accumulator after `c` cycles, kept while TAC bit 2 is 0 (R455). -/
def timaRest (x : Timer) (c : Nat) : Nat := if x.tac.getLsbD 2 then (x.timaAcc + c) % timaPeriod x.tac else x.timaAcc

theorem timerAdvance_eq (c : Nat) (s : State) : timerAdvance c s =
    (timaIncrements (timaCount s.bus.timer c) s).withTimerCounts
      (s.bus.timer.div + BitVec.ofNat 8 ((s.bus.timer.divAcc + c) / 256)) ((s.bus.timer.divAcc + c) % 256)
      (timaRest s.bus.timer c) := by
  rw [← timaIncrements_withTimerCounts]
  unfold timerAdvance timaAdvance timaCount timaRest
  cases h : s.bus.timer.tac.getLsbD 2 <;> simp only [divAdvance, h, if_true] <;> rfl

/-- Cycles counted in two parts: the whole periods of the first, then of its rest with the second. -/
theorem div_add_mod_add_div {p : Nat} (hp : 0 < p) (x n : Nat) : x / p + (x % p + n) / p = (x + n) / p := by
  conv_rhs => rw [← Nat.div_add_mod x p, Nat.add_assoc, Nat.mul_add_div hp]

theorem timaCount_add {x y : Timer} {m : Nat} (htac : y.tac = x.tac) (hacc : y.timaAcc = timaRest x m) (n : Nat) :
    timaCount x m + timaCount y n = timaCount x (m + n) ∧ timaRest y n = timaRest x (m + n) := by
  unfold timaCount timaRest at *
  rw [htac, hacc]
  cases x.tac.getLsbD 2
  · simp
  · simp only [if_true, ← Nat.add_assoc, Nat.mod_add_mod, and_true]
    exact div_add_mod_add_div (timaPeriod_pos x.tac) _ _

theorem timerAdvance_add (m n : Nat) (s : State) : timerAdvance (m + n) s = timerAdvance n (timerAdvance m s) := by
  obtain ⟨hcount, hrest⟩ := timaCount_add (x := s.bus.timer) (y := (timerAdvance m s).bus.timer) (m := m)
    (by rw [timerAdvance_eq]; exact timaIncrements_tac _) (by rw [timerAdvance_eq]; rfl) n
  have hdiv := div_add_mod_add_div (p := 256) (by decide) (s.bus.timer.divAcc + m) n
  rw [timerAdvance_eq (m + n), timerAdvance_eq n, ← hcount, ← hrest, timaIncrements_add, ← Nat.add_assoc, ← hdiv,
    BitVec.ofNat_add, ← BitVec.add_assoc]
  rw [timerAdvance_eq m, timaIncrements_withTimerCounts, ← Nat.mod_add_mod (s.bus.timer.divAcc + m)]
  rfl

/-! ### No cycle and one cycle (R450, R455) -/

theorem timerAdvance_zero (hdiv : s.bus.timer.divAcc < 256)
    (htima : s.bus.timer.tac.getLsbD 2 = true → s.bus.timer.timaAcc < timaPeriod s.bus.timer.tac) : timerAdvance 0 s = s := by
  have hcount : timaCount s.bus.timer 0 = 0 ∧ timaRest s.bus.timer 0 = s.bus.timer.timaAcc := by
    unfold timaCount timaRest
    split
    · next h => exact ⟨Nat.div_eq_of_lt (htima h), Nat.mod_eq_of_lt (htima h)⟩
    · exact ⟨rfl, rfl⟩
  rw [timerAdvance_eq, hcount.1, hcount.2, Nat.add_zero, Nat.div_eq_of_lt hdiv, Nat.mod_eq_of_lt hdiv, BitVec.add_zero]
  rfl

theorem divAdvance_one {x : Timer} (h : x.divAcc < 256) : divAdvance 1 x =
    if x.divAcc = 255 then { x with divAcc := 0, div := x.div + 1 } else { x with divAcc := x.divAcc + 1 } := by
  unfold divAdvance
  split
  · next h255 =>
    rw [h255]
    rfl
  · rw [Nat.div_eq_of_lt (by omega), Nat.mod_eq_of_lt (by omega), BitVec.add_zero]

theorem timaAdvance_disabled (h : s.bus.timer.tac.getLsbD 2 = false) (n : Nat) : timaAdvance n s = s :=
  if_neg (ne_true_of_eq_false h)

theorem timaAdvance_enabled (h : s.bus.timer.tac.getLsbD 2 = true) (n : Nat) : timaAdvance n s =
    timaIncrements ((s.bus.timer.timaAcc + n) / timaPeriod s.bus.timer.tac)
      (s.withTimerCounts s.bus.timer.div s.bus.timer.divAcc ((s.bus.timer.timaAcc + n) % timaPeriod s.bus.timer.tac)) :=
  if_pos h

theorem timaAdvance_one (h : s.bus.timer.tac.getLsbD 2 = true → s.bus.timer.timaAcc < timaPeriod s.bus.timer.tac) :
    timaAdvance 1 s =
      if s.bus.timer.tac.getLsbD 2 = false then s
      else if s.bus.timer.timaAcc + 1 = timaPeriod s.bus.timer.tac then
        timaIncrement { s with bus := { s.bus with timer := { s.bus.timer with timaAcc := 0 } } }
      else { s with bus := { s.bus with timer := { s.bus.timer with timaAcc := s.bus.timer.timaAcc + 1 } } } := by
  split
  · next hoff => exact timaAdvance_disabled hoff 1
  · next hon =>
    have hon : s.bus.timer.tac.getLsbD 2 = true := eq_true_of_ne_false hon
    have hlt := h hon
    rw [timaAdvance_enabled hon]
    split
    · next hwhole =>
      rw [hwhole, Nat.div_self (timaPeriod_pos _), Nat.mod_self]
      rfl
    · rw [Nat.div_eq_of_lt (by omega), Nat.mod_eq_of_lt (by omega)]
      rfl

theorem timaIncrement_eq (s : State) : timaIncrement s =
    if s.bus.timer.tima = 0xFF then
      { s with bus := { s.bus with timer := { s.bus.timer with tima := s.bus.timer.tma }, ifReg := s.bus.ifReg ||| 0b00100 } }
    else { s with bus := { s.bus with timer := { s.bus.timer with tima := s.bus.timer.tima + 1 } } } := rfl

/-- Cycles kept from a longer period: the advance counts a whole period of them at once. -/
theorem timaAdvance_overfull (h : s.bus.timer.tac.getLsbD 2 = true) (hfull : timaPeriod s.bus.timer.tac ≤ s.bus.timer.timaAcc)
    (n : Nat) : timaAdvance n s = timaAdvance n (timaIncrement (s.withTimerCounts s.bus.timer.div s.bus.timer.divAcc
      (s.bus.timer.timaAcc - timaPeriod s.bus.timer.tac))) := by
  have hacc : s.bus.timer.timaAcc + n = s.bus.timer.timaAcc - timaPeriod s.bus.timer.tac + n + timaPeriod s.bus.timer.tac := by
    omega
  have htac : (timaIncrement (s.withTimerCounts s.bus.timer.div s.bus.timer.divAcc
      (s.bus.timer.timaAcc - timaPeriod s.bus.timer.tac))).bus.timer.tac = s.bus.timer.tac := timaIncrement_tac
  rw [timaAdvance_enabled h, timaAdvance_enabled (by rwa [htac]), htac, hacc, Nat.add_div_right _ (timaPeriod_pos _),
    Nat.add_mod_right, timaIncrements, timaIncrement_withTimerCounts, timaIncrement_withTimerCounts]
  rfl

/-- Settles O49: the counts of two advances add up by `timerAdvance_add`, and a cycle counts by `divAdvance_one` and
`timaAdvance_one`. -/
theorem timerCountsCycles : Obligations.TimerCountsCycles := by
  refine ⟨timaIncrement_eq, fun s hdiv htima => ⟨timerAdvance_zero hdiv htima, fun m n => timerAdvance_add m n s, ?_⟩,
    fun s h hfull n => timaAdvance_overfull h hfull n, rfl⟩
  rw [timerAdvance, timaAdvance_one (s := { s with bus := { s.bus with timer := divAdvance 1 s.bus.timer } }) htima,
    divAdvance_one hdiv]
  by_cases h255 : s.bus.timer.divAcc = 255 <;> simp only [h255, if_true, if_false, decide_eq_true_eq]

end Sys2Proof.Machine
end

section
/-! SUPPORT. The host's buttons (60_exceptions.md R460, R462). -/

namespace Sys2Proof.Machine

variable {s : State} {slot m : Nat} {k q : Button} {pressed : Bool}

theorem buttonOf_setButtonOf (x : Buttons) (k q : Button) (pressed : Bool) :
    buttonOf (setButtonOf x k pressed) q = if q = k then pressed else buttonOf x q := by
  cases k <;> cases q <;> rfl

/-- The group of a button is the d-pad's or the other, and its bit of `sel` selects it with 0. -/
theorem groupSelected_iff (j : Joypad) (k : Button) : groupSelected j k = true ↔
    if k = .up ∨ k = .down ∨ k = .left ∨ k = .right then j.sel.getLsbD 0 = false else j.sel.getLsbD 1 = false := by
  cases k <;> simp [groupSelected]

theorem lookup_setOtherSlot (others : List (Nat × Buttons)) :
    ((setOtherSlot slot k pressed others).lookup m).getD noButtons =
      if m = slot then setButtonOf ((others.lookup m).getD noButtons) k pressed else (others.lookup m).getD noButtons := by
  induction others with
  | nil =>
    by_cases h : m = slot
    · simp [setOtherSlot, h]
    · simp [setOtherSlot, List.lookup_cons, beq_false_of_ne h, h]
  | cons entry rest ih =>
    obtain ⟨n, x⟩ := entry
    unfold setOtherSlot
    by_cases hn : n = slot
    · subst hn
      rw [if_pos rfl]
      by_cases h : m = n
      · simp [h]
      · simp [List.lookup_cons, beq_false_of_ne h, h]
    · rw [if_neg hn]
      by_cases h : m = n
      · simp [h, hn]
      · simpa [List.lookup_cons, beq_false_of_ne h] using ih

/-! ### `setButton` by the slot -/

/-- The press of a released button requests the Joypad interrupt, of any group or of the selected one (R462). -/
def pressRequests (s : State) (k : Button) (pressed : Bool) : Bool :=
  pressed && !buttonOf s.bus.joypad.slot0 k && (!s.params.joypadIrqSelected || groupSelected s.bus.joypad k)

theorem setButton_zero (s : State) (k : Button) (pressed : Bool) : s.setButton 0 k pressed =
    { s with bus := { s.bus with
        joypad := { s.bus.joypad with slot0 := setButtonOf s.bus.joypad.slot0 k pressed }
        ifReg := s.bus.ifReg ||| (if pressRequests s k pressed then 0b10000 else 0) } } := by
  have hsel : s.setButton 0 k pressed = if pressRequests s k pressed then
      ({ s with bus := { s.bus with joypad := { s.bus.joypad with slot0 := setButtonOf s.bus.joypad.slot0 k pressed } } } :
        State).requestInterrupt .joypad
    else { s with bus := { s.bus with joypad := { s.bus.joypad with slot0 := setButtonOf s.bus.joypad.slot0 k pressed } } } :=
    rfl
  rw [hsel]
  split
  · rfl
  · rw [show (0 : BitVec 5) = 0#5 from rfl, BitVec.or_zero]

theorem setButton_other (h : slot ≠ 0) : s.setButton slot k pressed =
    { s with bus := { s.bus with
        joypad := { s.bus.joypad with others := setOtherSlot slot k pressed s.bus.joypad.others } } } := if_neg h

theorem setButton_slotButtons (s : State) (slot : Nat) (k : Button) (pressed : Bool) (m : Nat) :
    (s.setButton slot k pressed).slotButtons m =
      if m = slot then setButtonOf (s.slotButtons m) k pressed else s.slotButtons m := by
  unfold State.slotButtons
  by_cases hslot : slot = 0
  · rw [hslot, setButton_zero]
    split <;> rfl
  · rw [setButton_other hslot]
    by_cases hm : m = 0
    · rw [if_pos hm, if_pos hm, if_neg (by omega)]
    · rw [if_neg hm, if_neg hm]
      exact lookup_setOtherSlot _

theorem setButton_ifReg (s : State) (slot : Nat) (k : Button) (pressed : Bool) : (s.setButton slot k pressed).bus.ifReg =
    s.bus.ifReg ||| (if slot = 0 ∧ pressRequests s k pressed = true then 0b10000 else 0) := by
  by_cases h : slot = 0
  · simp [h, setButton_zero]
  · simp [h, setButton_other h]

theorem setButton_kept (s : State) (slot : Nat) (k : Button) (pressed : Bool) :
    (s.setButton slot k pressed).regs = s.regs ∧ (s.setButton slot k pressed).bus.joypad.sel = s.bus.joypad.sel := by
  by_cases h : slot = 0
  · rw [h, setButton_zero]
    exact ⟨rfl, rfl⟩
  · rw [setButton_other h]
    exact ⟨rfl, rfl⟩

/-- JOYP reads slot 0 alone. -/
theorem setButton_other_joyp (h : slot ≠ 0) : (s.setButton slot k pressed).peek 0xFF00 = s.peek 0xFF00 := by
  rw [setButton_other h]
  exact State.peek_eq_of_routeRead rfl rfl rfl

/-- Settles O50: slot 0 by `setButton_zero`, the other slots, which JOYP does not read, by `setButton_other`. -/
theorem buttonsReachJoyp : Obligations.ButtonsReachJoyp := by
  intro s slot k q pressed t dpad selected
  have hbuttons (m : Nat) : buttonOf (t.slotButtons m) q =
      if m = slot ∧ q = k then pressed else buttonOf (s.slotButtons m) q := by
    rw [setButton_slotButtons]
    by_cases hm : m = slot
    · simp [hm, buttonOf_setButtonOf]
    · simp [hm]
  have hif := setButton_ifReg s slot k pressed
  have hpress : pressRequests s k pressed = true ↔
      pressed = true ∧ buttonOf s.bus.joypad.slot0 k = false ∧ (s.params.joypadIrqSelected = false ∨ selected) := by
    simp [pressRequests, groupSelected_iff, selected, dpad, and_assoc]
  refine ⟨fun h => ?_, hbuttons, fun hslot hp hb hs => ?_, fun h => ?_, setButton_other_joyp, setButton_kept s slot k pressed⟩
  · simpa [State.slotButtons, h] using hbuttons 0
  · rw [hif, if_pos ⟨hslot, hpress.2 ⟨hp, hb, hs⟩⟩]
  · rw [hif, if_neg, show (0 : BitVec 5) = 0#5 from rfl, BitVec.or_zero]
    rw [hpress]
    rintro ⟨hslot, hp, hb, hs⟩
    obtain h | h | h | ⟨hirq, hsel⟩ := h
    · exact h hslot
    · exact Bool.noConfusion (hp.symm.trans h)
    · exact Bool.noConfusion (hb.symm.trans h)
    · exact hs.elim (fun hf => Bool.noConfusion (hf.symm.trans hirq)) hsel

end Sys2Proof.Machine
end

section
/-! SUPPORT. What the I/O registers read (60_exceptions.md R433 to R476, 61_video.md R503 to R509). -/

namespace Sys2Proof.Machine

variable {s : State} {a : Word} {r : IoReg}

/-- A row of the table gives its register to its address, whatever the parameters (20_memory.md R77). -/
theorem route_ioTable {p : Params} (h : (a, r) ∈ ioTable) : route p a = .io r := by
  have hrows : ∀ row ∈ ioTable, 0xFEA0 ≤ row.1.toNat ∧ row.1.toNat < 0xFFFF ∧ ioReg? row.1 = some row.2 := by decide
  obtain ⟨hlow, hhigh, hio⟩ := hrows (a, r) h
  rw [route_flat_or_io (Or.inr ⟨hlow, hhigh⟩), hio]
  rfl

theorem State.peek_ioTable (h : (a, r) ∈ ioTable) : s.peek a = ioRead s r := State.peek_io (route_ioTable h)

theorem State.peek_ie : s.peek 0xFFFF = s.bus.ieReg := by
  rw [State.peek_of_not_cart (by rw [route_ie]; nofun), route_ie]
  rfl

/-- The audio registers and wave RAM are bytes of one memory (R475). -/
theorem State.peek_audioFile (h : (0xFF10 ≤ a ∧ a ≤ 0xFF25) ∨ (0xFF30 ≤ a ∧ a ≤ 0xFF3F)) :
    s.peek a = Memory.read s.bus.audio.regs a.toNat := by
  obtain h | h := h
  · have ha : 0xFF10 ≤ a.toNat ∧ a.toNat < 0xFF26 := ⟨by bv_omega, by bv_omega⟩
    exact State.peek_io (r := .audio a.toNat) (by rw [route_flat_or_io (by omega), ioReg?_audio ha]; rfl)
  · have ha : 0xFF30 ≤ a.toNat ∧ a.toNat < 0xFF40 := ⟨by bv_omega, by bv_omega⟩
    exact State.peek_io (r := .wave a.toNat) (by rw [route_flat_or_io (by omega), ioReg?_wave ha]; rfl)

/-! ### The registers with bits of their own (R433, R454, R460, R476, R504) -/

/-- A line reads 0 where a pressed button of a selected group pulls it down. -/
theorem joypadByte_toNat (j : Joypad) :
    let d := !j.sel.getLsbD 0
    let b := !j.sel.getLsbD 1
    (joypadByte j).toNat = 0xC0 + 16 * j.sel.toNat +
      8 * (!(d && j.slot0.down) && !(b && j.slot0.start)).toNat + 4 * (!(d && j.slot0.up) && !(b && j.slot0.select)).toNat +
      2 * (!(d && j.slot0.left) && !(b && j.slot0.b)).toNat + (!(d && j.slot0.right) && !(b && j.slot0.a)).toNat := by
  obtain ⟨sel, ⟨up, down, left, right, a, b, start, select⟩, others⟩ := j
  simp only [joypadByte, joypadLines]
  revert sel up down left right a b start select
  decide

theorem tacByte_toNat (tac : BitVec 3) : ((0xF8 : Byte) ||| tac.setWidth 8).toNat = 0xF8 + tac.toNat := by
  revert tac
  decide

theorem ifByte_toNat (x : BitVec 5) : ((0xE0 : Byte) ||| x.setWidth 8).toNat = 0xE0 + x.toNat := by
  revert x
  decide

theorem nr52Byte_toNat (power : Bool) : ((if power then 0x80 else 0 : Byte) ||| 0x70).toNat = 128 * power.toNat + 0x70 := by
  cases power <;> rfl

theorem statByte_toNat (x : Video) : (statByte x).toNat = 0x80 + 8 * x.statSel.toNat + 4 * x.coinc.toNat +
    (match x.mode with | .hblank => 0 | .vblank => 1 | .oamScan => 2 | .draw => 3) := by
  unfold statByte
  generalize x.statSel = sel
  generalize x.coinc = coinc
  cases x.mode <;> revert sel coinc <;> decide

/-- Settles O34: each row of the table reads its register, and the audio bytes their memory. -/
theorem registerReads : Obligations.RegisterReads := by
  intro s j d b
  have hrow {a : Word} (r : IoReg) (h : (a, r) ∈ ioTable) : s.peek a = ioRead s r := State.peek_ioTable h
  refine ⟨?_, hrow .sb (by decide), hrow .sc (by decide), hrow .div (by decide), hrow .tima (by decide), hrow .tma (by decide),
    ?_, ?_, ?_, hrow .lcdc (by decide), ?_, hrow .scy (by decide), hrow .scx (by decide), fun hly => ?_, hrow .lyc (by decide),
    hrow .dma (by decide), hrow .bgp (by decide), hrow .obp0 (by decide), hrow .obp1 (by decide), hrow .wy (by decide),
    hrow .wx (by decide), State.peek_ie, fun a => State.peek_audioFile⟩
  · rw [hrow .joyp (by decide)]
    exact joypadByte_toNat j
  · rw [hrow .tac (by decide)]
    exact tacByte_toNat _
  · rw [hrow .ifReg (by decide)]
    exact ifByte_toNat _
  · rw [hrow .nr52 (by decide)]
    exact nr52Byte_toNat _
  · rw [hrow .stat (by decide)]
    exact statByte_toNat _
  · rw [hrow .ly (by decide)]
    exact (BitVec.toNat_ofNat _ _).trans (Nat.mod_eq_of_lt (by omega))

end Sys2Proof.Machine
end

section
/-! SUPPORT. The bytes an OAM DMA leaves (60_exceptions.md R470). -/

namespace Sys2Proof.Machine

variable {s t : State}

theorem dmaSource_toNat (page : Byte) {i : Nat} (hi : i < 160) : (dmaSource page i).toNat = page.toNat * 256 + i := by
  have hp := page.isLt
  simp [dmaSource]
  omega

/-- The read of an earlier byte leaves a page's later bytes: page 1 alone holds 0x0100, and all of it is past the overlay. -/
theorem peek_dmaSource_afterRead (page : Byte) {i j : Nat} (hi : i < 160) (hj : j < 160) :
    (s.afterRead (dmaSource page j)).peek (dmaSource page i) = s.peek (dmaSource page i) := by
  refine peek_afterRead ?_
  by_cases hz : dmaSource page j = 0x0100
  · refine Or.inr ?_
    have hpage := ((dmaSource_eq_0x0100 hj).1 hz).1
    have hn := dmaSource_toNat page hi
    rw [hpage] at hn ⊢
    simp only [BitVec.le_def, hn]
    simp
  · exact Or.inl hz

/-- A store to another byte of OAM leaves a page's byte, the page of OAM itself included. -/
theorem peek_dmaSource_writeOam (page w : Byte) {i j : Nat} (hi : i < 160) (hij : i ≠ j) :
    (s.writeOam j w).peek (dmaSource page i) = s.peek (dmaSource page i) := by
  refine State.peek_eq_of_routeRead rfl rfl ?_
  cases hr : route s.params (dmaSource page i) with
  | oam k =>
    have hk : k = i := by
      have hn := dmaSource_toNat page hi
      obtain ⟨hlow, hhigh⟩ := route_eq_oam hr
      have ha : 0xFE00 ≤ (dmaSource page i).toNat ∧ (dmaSource page i).toNat < 0xFEA0 := ⟨by bv_omega, by bv_omega⟩
      rw [route_oam ha] at hr
      have hk := Route.oam.inj hr
      omega
    rw [hk]
    exact Memory.read_write_ne hij
  | _ => rfl

/-- The last `n` bytes of OAM are the page's as they read before the copy, the others as they were. -/
theorem dmaCopy_oam {page : Byte} {n : Nat} (hn : n ≤ 160) (hw : Memory.wf s.video.oam) (h : dmaCopy page n s = .ok () t) {i : Nat}
    (hi : i < 160) :
    Memory.read t.video.oam i = if 160 - n ≤ i then s.peek (dmaSource page i) else Memory.read s.video.oam i := by
  induction n generalizing s with
  | zero =>
    cases h
    rw [if_neg (by omega)]
  | succ n ih =>
    rw [dmaCopy_next] at h
    by_cases hc : CanRead s (dmaSource page (159 - n))
    · rw [memRead_ok hc, Access.bind_ok] at h
      have hw' : Memory.wf (s.afterRead (dmaSource page (159 - n))).video.oam := by rwa [State.afterRead_video]
      rw [ih (by omega) (Memory.write_wf hw') h]
      by_cases hlater : 160 - n ≤ i
      · rw [if_pos hlater, if_pos (by omega), peek_dmaSource_writeOam page _ hi (by omega),
          peek_dmaSource_afterRead page hi (by omega)]
      · rw [if_neg hlater, State.writeOam, Memory.read_write hw', State.afterRead_video]
        by_cases hnow : i = 159 - n
        · rw [if_pos hnow, if_pos (by omega), hnow]
        · rw [if_neg hnow, if_neg (by omega)]
    · rw [memRead_error hc] at h
      cases h

theorem State.peek_oamByte {i : Nat} (hi : i < 160) : t.peek (0xFE00 + BitVec.ofNat 16 i) = Memory.read t.video.oam i := by
  have ha : (0xFE00 + BitVec.ofNat 16 i : Word).toNat = 0xFE00 + i := by
    rw [BitVec.toNat_add, BitVec.toNat_ofNat]
    simp
    omega
  have hr : route t.params (0xFE00 + BitVec.ofNat 16 i) = .oam i := by
    rw [route_oam (by omega), ha, Nat.add_sub_cancel_left]
  rw [State.peek_of_not_cart (by rw [hr]; nofun), hr]
  rfl

/-- Settles O42: `dmaCopy_oam` with all 160 bytes to copy, from the state with DMA stored. -/
theorem dmaCopiesThePage : Obligations.DmaCopiesThePage := by
  intro s v ⟨_, _, _, hoam, _⟩ hc
  have hok := memWrite_ok hc
  have hio : memWrite s 0xFF46 v = dmaCopy v 160 { s with bus := { s.bus with dmaReg := v } } := by
    simp only [memWrite, route_dma.2, ioWrite]
  refine ⟨hok, ?_, fun i hi => ?_⟩
  · rw [State.afterWrite_io (route_dma.2 rfl), dmaReg_readBack]
  · rw [State.peek_oamByte hi]
    exact (dmaCopy_oam (s := { s with bus := { s.bus with dmaReg := v } }) le_rfl hoam (hio.symm.trans hok) hi).trans
      (if_pos (by omega))

end Sys2Proof.Machine
end

section
/-! SUPPORT. The state construction gives (70_reset_and_hazards.md R570 to R575). -/

namespace Sys2Proof.Machine

variable {p : Params} {a : Word} {i : Nat}

theorem route_flat_lt (h : route p a = .flat i) : i < 0x10000 := by
  have ha := a.isLt
  unfold route at h
  repeat' split at h
  all_goals first | (simp at h; done) | (have hi := Route.flat.inj h; omega)

theorem route_eq_vram (h : route p a = .vram i) : 0x8000 ≤ a.toNat ∧ a.toNat < 0xA000 ∧ i = a.toNat - 0x8000 := by
  have hrange : 0x8000 ≤ a ∧ a ≤ 0x9FFF := by
    by_contra hn
    unfold route at h
    rw [if_neg hn] at h
    repeat' split at h
    all_goals exact nomatch h
  have hrange : 0x8000 ≤ a.toNat ∧ a.toNat < 0xA000 := ⟨by bv_omega, by bv_omega⟩
  rw [route_vram hrange] at h
  exact ⟨hrange.1, hrange.2, (Route.vram.inj h).symm⟩

/-- The rows of the table read their registers. -/
theorem map_peek_ioTable (s : State) {rows : List (Word × IoReg)} (h : ∀ row ∈ rows, row ∈ ioTable) :
    (rows.map Prod.fst).map s.peek = rows.map fun row => ioRead s row.2 := by
  rw [List.map_map]
  exact List.map_congr_left fun row hrow => State.peek_ioTable (h row hrow)

/-- The registers of R573, in its order: IE comes after IF. -/
theorem map_peek_registers (s : State) :
    [0xFF00, 0xFF01, 0xFF02, 0xFF04, 0xFF05, 0xFF06, 0xFF07, 0xFF0F, 0xFFFF, 0xFF26, 0xFF40, 0xFF41, 0xFF42, 0xFF43,
      0xFF44, 0xFF45, 0xFF46, 0xFF47, 0xFF48, 0xFF49, 0xFF4A, 0xFF4B].map s.peek =
    (ioTable.take 8).map (fun row => ioRead s row.2) ++ s.bus.ieReg :: (ioTable.drop 8).map fun row => ioRead s row.2 := by
  rw [← State.peek_ie, ← map_peek_ioTable s fun _ => List.mem_of_mem_take, ← map_peek_ioTable s fun _ => List.mem_of_mem_drop]
  rfl

/-- The profile alone decides what the registers of R573 read. -/
theorem construct_registers {q : Params} (h : p.bootRom.isSome = q.bootRom.isSome) (now later : Nat) :
    [0xFF00, 0xFF01, 0xFF02, 0xFF04, 0xFF05, 0xFF06, 0xFF07, 0xFF0F, 0xFFFF, 0xFF26, 0xFF40, 0xFF41, 0xFF42, 0xFF43,
      0xFF44, 0xFF45, 0xFF46, 0xFF47, 0xFF48, 0xFF49, 0xFF4A, 0xFF4B].map (State.construct p now).peek =
    [0xFF00, 0xFF01, 0xFF02, 0xFF04, 0xFF05, 0xFF06, 0xFF07, 0xFF0F, 0xFFFF, 0xFF26, 0xFF40, 0xFF41, 0xFF42, 0xFF43,
      0xFF44, 0xFF45, 0xFF46, 0xFF47, 0xFF48, 0xFF49, 0xFF4A, 0xFF4B].map (State.construct q later).peek := by
  have hrows : ∀ row ∈ ioTable, ioRead (State.construct p now) row.2 = ioRead (State.construct q later) row.2 := by
    simp [ioTable, ioRead, State.construct, busAtReset, videoAtReset, statByte, h]
  rw [map_peek_registers, map_peek_registers, List.map_congr_left fun row hrow => hrows row (List.mem_of_mem_take hrow),
    List.map_congr_left fun row hrow => hrows row (List.mem_of_mem_drop hrow)]
  rfl

/-! ### The memories (R572) -/

theorem construct_flat (p : Params) (now : Nat) (h : i < 0x10000) :
    Memory.read (State.construct p now).bus.flat i = Memory.read p.ramInit i :=
  (Memory.read_slice p.ramInit 0 0x10000 0 i).trans (if_pos ⟨Nat.zero_le i, by omega⟩)

theorem construct_vram (p : Params) (now : Nat) (h : i < 0x2000) :
    Memory.read (State.construct p now).video.vram i = Memory.read p.ramInit (i + 0x8000) :=
  (Memory.read_slice p.ramInit 0x8000 0x2000 0 i).trans (if_pos ⟨Nat.zero_le i, by omega⟩)

theorem construct_oam (p : Params) (now : Nat) (h : i < 0xA0) :
    Memory.read (State.construct p now).video.oam i = Memory.read p.ramInit (i + 0xFE00) :=
  (Memory.read_slice p.ramInit 0xFE00 0xA0 0 i).trans (if_pos ⟨Nat.zero_le i, by omega⟩)

theorem construct_audioRegs (p : Params) (now : Nat) : (State.construct p now).bus.audio.regs =
    if p.bootRom.isSome then Memory.slice p.ramInit 0xFF30 0x10 0xFF30
    else Memory.writeAll (Memory.slice p.ramInit 0xFF30 0x10 0xFF30) 0xFF10 audioPostBoot := rfl

/-- Wave RAM is `RAM_INIT`'s in both profiles. -/
theorem construct_wave (p : Params) (now : Nat) (h : 0xFF30 ≤ i ∧ i < 0xFF40) :
    Memory.read (State.construct p now).bus.audio.regs i = Memory.read p.ramInit i := by
  have hslice : Memory.read (Memory.slice p.ramInit 0xFF30 0x10 0xFF30) i = Memory.read p.ramInit i := by
    rw [Memory.read_slice, if_pos (by omega), Nat.sub_add_cancel h.1]
  rw [construct_audioRegs]
  split
  · exact hslice
  · have hbeyond : audioPostBoot[i - 0xFF10]? = none := List.getElem?_eq_none (show 22 ≤ i - 0xFF10 by omega)
    rw [Memory.read_writeAll (Memory.slice_wf _ _ _ _), if_pos (by omega), hbeyond]
    exact hslice

theorem construct_audio_boot (h : p.bootRom.isSome = true) (now : Nat) (hi : i < 0xFF30) :
    Memory.read (State.construct p now).bus.audio.regs i = 0 := by
  rw [construct_audioRegs, if_pos h, Memory.read_slice, if_neg (by omega)]

theorem construct_audio_postBoot (h : p.bootRom = none) (now : Nat) {k : Nat} (hk : k < audioPostBoot.length) :
    Memory.read (State.construct p now).bus.audio.regs (0xFF10 + k) = audioPostBoot[k] := by
  rw [construct_audioRegs, h, if_neg (by simp), Memory.read_writeAll (Memory.slice_wf _ _ _ _), if_pos (by omega),
    Nat.add_sub_cancel_left, List.getElem?_eq_getElem hk]
  rfl

/-- The audio registers of R573 in the order of their addresses. -/
theorem construct_audioRegisters (h : p.bootRom = none) (now : Nat) :
    ((List.range audioPostBoot.length).map fun k => BitVec.ofNat 16 (0xFF10 + k)).map (State.construct p now).peek =
      audioPostBoot := by
  refine List.ext_getElem (by simp) fun k hk _ => ?_
  have hk : k < audioPostBoot.length := by simpa using hk
  have hlt : k < 22 := hk
  have ha : (BitVec.ofNat 16 (0xFF10 + k)).toNat = 0xFF10 + k := by
    rw [BitVec.toNat_ofNat]
    omega
  rw [List.getElem_map, List.getElem_map, List.getElem_range, State.peek_audioFile (Or.inl ⟨by bv_omega, by bv_omega⟩), ha]
  exact construct_audio_postBoot h now hk

theorem construct_peek_of_route (now : Nat) {r : Route} (hr : route p a = r) (hc : r ≠ .cart) :
    (State.construct p now).peek a = (State.construct p now).routeRead a r :=
  hr ▸ State.peek_of_not_cart (s := State.construct p now) (fun h => hc (hr ▸ h))

theorem construct_peek_flat (now : Nat) (h : route p a = .flat i) : (State.construct p now).peek a = Memory.read p.ramInit i :=
  (construct_peek_of_route now h nofun).trans (construct_flat p now (route_flat_lt h))

theorem construct_peek_vram (now : Nat) (h : route p a = .vram i) :
    (State.construct p now).peek a = Memory.read p.ramInit a.toNat := by
  obtain ⟨hlow, hhigh, hi⟩ := route_eq_vram h
  rw [construct_peek_of_route now h nofun]
  exact (construct_vram p now (by omega)).trans (by rw [hi, Nat.sub_add_cancel hlow])

theorem construct_peek_oam (now : Nat) (h : route p a = .oam i) :
    (State.construct p now).peek a = Memory.read p.ramInit a.toNat := by
  obtain ⟨hlow, hhigh⟩ := route_eq_oam h
  have hrange : 0xFE00 ≤ a.toNat ∧ a.toNat < 0xFEA0 := ⟨by bv_omega, by bv_omega⟩
  rw [construct_peek_of_route now (route_oam hrange) nofun]
  exact (construct_oam p now (by omega)).trans (by rw [Nat.sub_add_cancel hrange.1])

theorem construct_peek_wave (now : Nat) (h : route p a = .io (.wave i)) :
    (State.construct p now).peek a = Memory.read p.ramInit a.toNat := by
  obtain ⟨rfl, hrange⟩ := route_wave h
  exact (construct_peek_of_route now h nofun).trans (construct_wave p now hrange)

theorem construct_peek_audio (hboot : p.bootRom.isSome = true) (now : Nat) (h : route p a = .io (.audio i)) :
    (State.construct p now).peek a = 0 := by
  obtain ⟨rfl, -, hhigh⟩ := route_audio h
  exact (construct_peek_of_route now h nofun).trans (construct_audio_boot hboot now (by omega))

/-- Settles O57: what an address reads by its route, and the registers of each profile at one choice of its parameters. -/
theorem resetValues : Obligations.ResetValues := by
  intro p now s
  refine ⟨⟨rfl, rfl, rfl, rfl, rfl, rfl, rfl, rfl, rfl, rfl, rfl, rfl, rfl, rfl, rfl, rfl, rfl, rfl, rfl, rfl⟩, fun h => ?_, ?_,
    fun a => ?_, fun h => ?_, fun h => ?_⟩
  · have hboot : p.bootRom.isSome = Params.default.bootRom.isSome := by rw [h]; rfl
    refine ⟨by simp [s, State.construct, h, regsAtReset], by simp [s, State.construct, h, videoAtReset],
      by simp [s, State.construct, h, videoAtReset], (construct_registers hboot now 0).trans (by decide)⟩
  · simp only [s, State.construct]
    cases loadCartridge p.rom p.cartRamInit now <;> rfl
  · cases h : route p a with
    | cart | ie => trivial
    | flat i => exact construct_peek_flat now h
    | vram i => exact construct_peek_vram now h
    | oam i => exact construct_peek_oam now h
    | io r =>
      cases r with
      | wave i => exact construct_peek_wave now h
      | audio i => exact fun hboot => construct_peek_audio hboot now h
      | _ => trivial
  · exact construct_audioRegisters h now
  · have hboot : p.bootRom.isSome = ({ Params.default with bootRom := some [] } : Params).bootRom.isSome := h
    refine ⟨by simp [s, State.construct, h, regsAtReset], by simp [s, State.construct, h, videoAtReset],
      by simp [s, State.construct, h, videoAtReset], (construct_registers hboot now 0).trans (by decide)⟩

/-! ### The invariant -/

theorem videoAtReset_wf (boot : Bool) (ramInit : Memory) : VideoWf (videoAtReset boot ramInit) := by
  refine ⟨Nat.zero_le _, Nat.zero_le _, Nat.le_refl 252, Nat.le_add_right 252 203, Nat.zero_le 10, Nat.zero_le _, nofun, ?_⟩
  cases boot
  · simp [videoAtReset, ModeFollows]
  · exact ⟨rfl, rfl, rfl, rfl, rfl, rfl, rfl⟩

/-- Settles O59: each part of the invariant holds in both profiles. -/
theorem invariantAtReset : Obligations.InvariantAtReset := by
  have hinv (p : Params) (now : Nat) (hp : p.inRange) : Inv (State.construct p now) := by
    have hflags : (regsAtReset p.bootRom.isSome).f &&& 0x0F = 0 := by cases p.bootRom.isSome <;> rfl
    exact ⟨hp, hflags, nofun, id, State.construct_memWf p now, Nat.zero_lt_succ _, Nat.zero_lt_succ _, videoAtReset_wf _ _⟩
  exact ⟨hinv, hinv Params.default 0 (by decide)⟩

end Sys2Proof.Machine
end

section
/-! SUPPORT. One tick of the video engine, by the cycle it reaches (61_video.md R510, R517, R519). -/

namespace Sys2Proof.Machine

variable {s : State} {v : Video}

/-! ### The end of a line -/

theorem beginLine_video : (beginLine s).video =
    { s.video with
      mode := if s.video.ly = 144 then .vblank else if s.video.ly < 144 then .oamScan else s.video.mode
      viewport := if s.video.ly = 144 then s.video.lines else s.video.viewport
      winLine := if s.video.ly = 144 then 0 else s.video.winLine
      winYLatch := s.video.winYLatch && decide (s.video.ly ≠ 144) } := by
  unfold beginLine
  by_cases hvblank : s.video.ly = 144
  · simp [hvblank, enterVblank_video]
  · by_cases hscan : s.video.ly < 144 <;> simp [hvblank, hscan, enterMode_video]

theorem lineEnd_video : (lineEnd s).video =
    let ly := nextLine s.video.ly
    { s.video with
      lineCycle := 0
      ly
      coinc := decide (ly = s.video.lyc.toNat)
      mode := if ly = 144 then .vblank else if ly < 144 then .oamScan else s.video.mode
      viewport := if ly = 144 then s.video.lines else s.video.viewport
      winLine := if ly = 144 then 0 else if s.video.winDrawn then s.video.winLine + 1 else s.video.winLine
      winYLatch := s.video.winYLatch && decide (ly ≠ 144)
      spriteBuf := []
      drawEnd := 252
      winDrawn := false } := by
  rw [lineEnd, beginLine_video, State.withVideo_video, lycCheck_video]
  rfl

theorem requestStatIf_ifReg (b : Bool) : (s.requestStatIf b).bus.ifReg = s.bus.ifReg ||| (if b then 0b00010 else 0) := by
  rw [requestStatIf_eq]

theorem or_stat_or_stat (x : BitVec 5) (b c : Bool) :
    (x ||| (if b then 0b00010 else 0)) ||| (if c then 0b00010 else 0) = x ||| (if b || c then 0b00010 else 0) := by
  rw [BitVec.or_assoc]
  cases b <;> cases c <;> rfl

theorem lycCheck_ifReg : (lycCheck s).bus.ifReg =
    s.bus.ifReg ||| (if decide (s.video.ly = s.video.lyc.toNat) && s.video.statSel.getLsbD 3 then 0b00010 else 0) :=
  requestStatIf_ifReg _

theorem enterVblank_ifReg : (enterVblank s).bus.ifReg =
    (s.bus.ifReg ||| (if s.video.statSel.getLsbD 1 then 0b00010 else 0)) ||| 0b00001 :=
  congrArg (· ||| 0b00001) (requestStatIf_ifReg (s := s.withVideo { s.video with mode := .vblank }) _)

theorem beginLine_ifReg : (beginLine s).bus.ifReg =
    let stat := (decide (s.video.ly < 144) && s.video.statSel.getLsbD 2) || (decide (s.video.ly = 144) && s.video.statSel.getLsbD 1)
    (s.bus.ifReg ||| (if stat then 0b00010 else 0)) ||| (if s.video.ly = 144 then 0b00001 else 0) := by
  unfold beginLine
  by_cases hvblank : s.video.ly = 144
  · simp [hvblank, enterVblank_ifReg]
  · by_cases hscan : s.video.ly < 144
    · simp [hvblank, hscan, enterMode, requestStatIf_ifReg]
    · simp [hvblank, hscan]

/-- The STAT sources of the new line are the LYC hit and the mode it begins in; line 144 requests VBlank besides. -/
theorem lineEnd_ifReg : (lineEnd s).bus.ifReg =
    let ly := nextLine s.video.ly
    let stat := (decide (ly = s.video.lyc.toNat) && s.video.statSel.getLsbD 3) ||
      (decide (ly < 144) && s.video.statSel.getLsbD 2) || (decide (ly = 144) && s.video.statSel.getLsbD 1)
    (s.bus.ifReg ||| (if stat then 0b00010 else 0)) ||| (if ly = 144 then 0b00001 else 0) := by
  rw [lineEnd, beginLine_ifReg, State.withVideo_bus, State.withVideo_video, lycCheck_ifReg, lycCheck_video]
  exact congrArg (· ||| _) ((or_stat_or_stat _ _ _).trans (by rw [← Bool.or_assoc]; rfl))

/-! ### The events of a tick -/

theorem videoTick_lineEnd (h : s.video.lineCycle = 455) :
    videoTick s = lineEnd (s.withVideo { s.video with lineCycle := 456 }) := by
  simp [videoTick, cycleEvent, State.withVideo, h]

theorem videoTick_enterDraw (h : s.video.lineCycle = 79) (hly : s.video.ly < 144) (hmode : s.video.mode = .oamScan) :
    videoTick s = s.withVideo (enterDraw s.params.windowPenalty { s.video with lineCycle := 80 }) := by
  simp [videoTick, cycleEvent, State.withVideo, h, hly, hmode]

theorem videoTick_enterHblank (h : s.video.lineCycle + 1 = s.video.drawEnd) (hend : s.video.lineCycle ≠ 455)
    (hly : s.video.ly < 144) (hmode : s.video.mode = .draw) :
    videoTick s = enterMode .hblank (s.withVideo { s.video with lineCycle := s.video.lineCycle + 1 }) := by
  simp [videoTick, cycleEvent, State.withVideo, ← h, hend, hly, hmode]

/-- At every other cycle the line cycle alone moves. -/
theorem videoTick_idle (hend : s.video.lineCycle ≠ 455)
    (hscan : ¬ (s.video.ly < 144 ∧ s.video.mode = .oamScan ∧ s.video.lineCycle = 79))
    (hdraw : ¬ (s.video.ly < 144 ∧ s.video.mode = .draw ∧ s.video.lineCycle + 1 = s.video.drawEnd)) :
    videoTick s = s.withVideo { s.video with lineCycle := s.video.lineCycle + 1 } := by
  simp [videoTick, cycleEvent, State.withVideo, hend, hscan, hdraw]

/-- What every event a tick may meet gives, the tick gives. -/
theorem videoTick_cases {P : State → Prop}
    (hend : s.video.lineCycle = 455 → P (lineEnd (s.withVideo { s.video with lineCycle := 456 })))
    (hdraw : s.video.lineCycle = 79 → s.video.ly < 144 → s.video.mode = .oamScan →
      P (s.withVideo (enterDraw s.params.windowPenalty { s.video with lineCycle := 80 })))
    (hhblank : s.video.lineCycle ≠ 455 → P (enterMode .hblank (s.withVideo { s.video with lineCycle := s.video.lineCycle + 1 })))
    (hidle : s.video.lineCycle ≠ 455 → P (s.withVideo { s.video with lineCycle := s.video.lineCycle + 1 })) :
    P (videoTick s) := by
  by_cases h455 : s.video.lineCycle = 455
  · rw [videoTick_lineEnd h455]
    exact hend h455
  by_cases hscan : s.video.ly < 144 ∧ s.video.mode = .oamScan ∧ s.video.lineCycle = 79
  · obtain ⟨hly, hmode, h79⟩ := hscan
    rw [videoTick_enterDraw h79 hly hmode]
    exact hdraw h79 hly hmode
  by_cases hd : s.video.ly < 144 ∧ s.video.mode = .draw ∧ s.video.lineCycle + 1 = s.video.drawEnd
  · obtain ⟨hly, hmode, he⟩ := hd
    rw [videoTick_enterHblank he h455 hly hmode]
    exact hhblank h455
  · rw [videoTick_idle h455 hscan hd]
    exact hidle h455

/-! ### The position in the frame (R511, R519) -/

/-- A tick moves the position by one, around the frame, and keeps what turns the LCD on. -/
structure TickMoves (s t : State) : Prop where
  lcdc : t.video.lcdc = s.video.lcdc
  lcdActive : t.video.lcdActive = s.video.lcdActive
  ly : t.video.ly = if s.video.lineCycle = 455 then nextLine s.video.ly else s.video.ly
  lineCycle : t.video.lineCycle = if s.video.lineCycle = 455 then 0 else s.video.lineCycle + 1

theorem enterDraw_counters (w : Nat) : (enterDraw w v).lcdc = v.lcdc ∧ (enterDraw w v).lcdActive = v.lcdActive ∧
    (enterDraw w v).ly = v.ly ∧ (enterDraw w v).lineCycle = v.lineCycle := by
  simp only [enterDraw, renderLine]
  unfold windowYCheck
  split <;> exact ⟨rfl, rfl, rfl, rfl⟩

theorem videoTick_moves (s : State) : TickMoves s (videoTick s) := by
  refine videoTick_cases (P := TickMoves s) (fun h => ?_) (fun h _ _ => ?_) (fun h => ?_) (fun h => ?_)
  · have hv := lineEnd_video (s := s.withVideo { s.video with lineCycle := 456 })
    exact ⟨(congrArg Video.lcdc hv :), (congrArg Video.lcdActive hv :), (congrArg Video.ly hv).trans (if_pos h).symm,
      (congrArg Video.lineCycle hv).trans (if_pos h).symm⟩
  · obtain ⟨hlcdc, hactive, hly, hlc⟩ := enterDraw_counters (v := { s.video with lineCycle := 80 }) s.params.windowPenalty
    exact ⟨hlcdc, hactive, by rw [if_neg (by omega)]; exact hly, by rw [if_neg (by omega), h]; exact hlc⟩
  · have hv := enterMode_video (s := s.withVideo { s.video with lineCycle := s.video.lineCycle + 1 }) .hblank
    exact ⟨(congrArg Video.lcdc hv :), (congrArg Video.lcdActive hv :), (congrArg Video.ly hv).trans (if_neg h).symm,
      (congrArg Video.lineCycle hv).trans (if_neg h).symm⟩
  · exact ⟨rfl, rfl, (if_neg h).symm, (if_neg h).symm⟩

theorem videoTicks_keep_lcd (c : Nat) : (videoTicks c s).video.lcdc = s.video.lcdc ∧
    (videoTicks c s).video.lcdActive = s.video.lcdActive := by
  induction c generalizing s with
  | zero => exact ⟨rfl, rfl⟩
  | succ c ih =>
    have htick := videoTick_moves s
    exact ⟨ih.1.trans htick.lcdc, ih.2.trans htick.lcdActive⟩

theorem videoTicks_position (c : Nat) (hly : s.video.ly ≤ 153) (hlc : s.video.lineCycle ≤ 455) :
    (videoTicks c s).video.ly = (456 * s.video.ly + s.video.lineCycle + c) / 456 % 154 ∧
    (videoTicks c s).video.lineCycle = (456 * s.video.ly + s.video.lineCycle + c) % 456 := by
  induction c generalizing s with
  | zero =>
    show s.video.ly = _ ∧ s.video.lineCycle = _
    omega
  | succ c ih =>
    obtain ⟨-, -, hly', hlc'⟩ := videoTick_moves s
    unfold nextLine at hly'
    split_ifs at hly' hlc'
    all_goals
      have hnext := ih (s := videoTick s) (by omega) (by omega)
      rw [hly', hlc'] at hnext
      show (videoTicks c (videoTick s)).video.ly = _ ∧ (videoTicks c (videoTick s)).video.lineCycle = _
      omega

/-! ### Turning the LCD off and on (R511, R512) -/

theorem videoAdvance_on (hon : s.video.lcdc.getLsbD 7 = true) (hactive : s.video.lcdActive = true) (c : Nat) :
    videoAdvance c s = videoTicks c s := by
  simp [videoAdvance, lcdcBit, hon, hactive]

theorem videoAdvance_turnOn (hon : s.video.lcdc.getLsbD 7 = true) (hactive : s.video.lcdActive = false) (c : Nat) :
    videoAdvance c s = videoTicks c (lcdOn s) := by
  simp [videoAdvance, lcdcBit, hon, hactive]

theorem videoAdvance_off (hoff : s.video.lcdc.getLsbD 7 = false) (c : Nat) : videoAdvance c s = lcdOff s := by
  rw [videoAdvance, lcdcBit, hoff, Bool.not_false, if_pos rfl]

theorem videoAdvance_add (hon : s.video.lcdc.getLsbD 7 = true) (hactive : s.video.lcdActive = true) (m n : Nat) :
    videoAdvance (m + n) s = videoAdvance n (videoAdvance m s) := by
  obtain ⟨hlcdc, hkeeps⟩ := videoTicks_keep_lcd (s := s) m
  rw [videoAdvance_on hon hactive, videoAdvance_on hon hactive, videoTicks_add,
    videoAdvance_on (by rw [hlcdc, hon]) (by rw [hkeeps, hactive])]

/-- Settles O51: the position in the frame by `videoTicks_position`, and the LCD's two switches by `lcdOff` and `lcdOn_eq`. -/
theorem frameIs70224Cycles : Obligations.FrameIs70224Cycles := by
  intro s hit stat
  refine ⟨fun hon hactive hly hlc => ?_, videoAdvance_on, fun hon hactive c => ?_, fun hoff c => videoAdvance_off hoff c⟩
  · obtain ⟨hlyLine, hlcLine⟩ := videoTicks_position (s := s) 456 hly hlc
    obtain ⟨hlyFrame, hlcFrame⟩ := videoTicks_position (s := s) 70224 hly hlc
    rw [← videoAdvance_on hon hactive] at hlyLine hlcLine hlyFrame hlcFrame
    refine ⟨?_, by omega, by omega, by omega, videoAdvance_add hon hactive⟩
    split <;> omega
  · rw [videoAdvance_turnOn hon hactive, lcdOn_eq]

end Sys2Proof.Machine
end

section
/-! SUPPORT. The cycles inside a line, and what the frame's events show (61_video.md R513 to R518, R531 to R533). -/

namespace Sys2Proof.Machine

variable {s : State} {v : Video}

/-! ### Inside a line -/

/-- Between the events the line cycle alone moves. -/
theorem videoTicks_idle (c : Nat) (hend : s.video.lineCycle + c ≤ 455)
    (hscan : s.video.ly < 144 → s.video.mode = .oamScan → s.video.lineCycle + c < 80 ∨ 80 ≤ s.video.lineCycle)
    (hdraw : s.video.ly < 144 → s.video.mode = .draw →
      s.video.lineCycle + c < s.video.drawEnd ∨ s.video.drawEnd ≤ s.video.lineCycle) :
    videoTicks c s = s.withVideo { s.video with lineCycle := s.video.lineCycle + c } := by
  induction c generalizing s with
  | zero => rfl
  | succ c ih =>
    have htick : videoTick s = s.withVideo { s.video with lineCycle := s.video.lineCycle + 1 } := by
      refine videoTick_idle (by omega) ?_ ?_
      · rintro ⟨hly, hmode, h79⟩
        have := hscan hly hmode
        omega
      · rintro ⟨hly, hmode, he⟩
        have := hdraw hly hmode
        omega
    show videoTicks c (videoTick s) = _
    rw [htick, ih]
    · show s.withVideo { s.video with lineCycle := s.video.lineCycle + 1 + c } = _
      rw [Nat.add_assoc, Nat.add_comm 1]
    · show s.video.lineCycle + 1 + c ≤ 455
      omega
    · intro hly hmode
      have := hscan hly hmode
      show s.video.lineCycle + 1 + c < 80 ∨ 80 ≤ s.video.lineCycle + 1
      omega
    · intro hly hmode
      have := hdraw hly hmode
      show s.video.lineCycle + 1 + c < s.video.drawEnd ∨ s.video.drawEnd ≤ s.video.lineCycle + 1
      omega

theorem windowYCheck_eq (v : Video) :
    windowYCheck v = { v with winYLatch := v.winYLatch || decide (v.ly = v.wy.toNat) } := by
  unfold windowYCheck
  split
  · next h => simp [h]
  · next h => simp [h]

/-- The engine at line cycle 80, where Draw begins. -/
def State.drawVideo (s : State) : Video := enterDraw s.params.windowPenalty { s.video with lineCycle := 80 }

section
variable (s)

@[simp] theorem State.drawVideo_ly : s.drawVideo.ly = s.video.ly := by simp [State.drawVideo, enterDraw, renderLine]
@[simp] theorem State.drawVideo_lineCycle : s.drawVideo.lineCycle = 80 := by simp [State.drawVideo, enterDraw, renderLine]
@[simp] theorem State.drawVideo_mode : s.drawVideo.mode = .draw := rfl

@[simp] theorem State.drawVideo_statSel : s.drawVideo.statSel = s.video.statSel := by
  simp only [State.drawVideo, enterDraw, renderLine, windowYCheck_eq]

theorem State.drawVideo_drawEnd : s.drawVideo.drawEnd = 252 + s.video.scx.toNat % 8 +
    if (s.video.winYLatch || decide (s.video.ly = s.video.wy.toNat)) && s.video.lcdc.getLsbD 5 && s.video.lcdc.getLsbD 0 &&
      decide (s.video.wx.toNat ≤ 166) then s.params.windowPenalty else 0 := by
  simp only [State.drawVideo, enterDraw, renderLine, windowYCheck_eq]
  rfl

end

/-- HBlank begins at the end of Draw, with its STAT source, and lasts to the end of the line. -/
theorem videoTicks_enterHblank (k : Nat) (h : s.video.lineCycle + 1 = s.video.drawEnd) (hly : s.video.ly < 144)
    (hmode : s.video.mode = .draw) (hend : s.video.drawEnd + k ≤ 455) : videoTicks (1 + k) s =
      (enterMode .hblank s).withVideo { s.video with lineCycle := s.video.drawEnd + k, mode := .hblank } := by
  rw [videoTicks_add]
  show videoTicks k (videoTick s) = _
  rw [videoTick_enterHblank h (by omega) hly hmode, h, videoTicks_idle k]
  all_goals rw [enterMode_video, State.withVideo_video]
  · rw [enterMode, enterMode, requestStatIf_eq, requestStatIf_eq]
    rfl
  · exact hend
  · exact fun _ => nofun
  · exact fun _ => nofun

section
variable (hly : s.video.ly < 144) (hlc : s.video.lineCycle = 0) (hmode : s.video.mode = .oamScan)

include hlc hmode in
theorem videoTicks_scan {c : Nat} (hc : c < 80) : videoTicks c s = s.withVideo { s.video with lineCycle := c } := by
  rw [videoTicks_idle c (by omega) (by omega) (by simp [hmode]), hlc, Nat.zero_add]

include hly hlc hmode

theorem videoTicks_enterDraw : videoTicks 80 s = s.withVideo s.drawVideo := by
  rw [videoTicks_add (m := 79) (n := 1), videoTicks_scan hlc hmode (by decide)]
  exact videoTick_enterDraw (s := s.withVideo { s.video with lineCycle := 79 }) rfl hly hmode

theorem videoTicks_draw {c : Nat} (hc : 80 ≤ c) (hend : c < s.drawVideo.drawEnd) (h455 : c ≤ 455) :
    videoTicks c s = s.withVideo { s.drawVideo with lineCycle := c } := by
  obtain ⟨k, rfl⟩ := Nat.exists_eq_add_of_le hc
  rw [videoTicks_add, videoTicks_enterDraw hly hlc hmode, videoTicks_idle k]
  all_goals rw [State.withVideo_video, State.drawVideo_lineCycle]
  · rfl
  · exact h455
  · exact fun _ _ => Or.inr (Nat.le_refl 80)
  · exact fun _ _ => Or.inl hend

theorem videoTicks_hblank {c : Nat} (h81 : 81 ≤ s.drawVideo.drawEnd) (hend : s.drawVideo.drawEnd ≤ c) (h455 : c ≤ 455) :
    videoTicks c s =
      (enterMode .hblank (s.withVideo s.drawVideo)).withVideo { s.drawVideo with lineCycle := c, mode := .hblank } := by
  obtain ⟨m, hm⟩ := Nat.exists_eq_add_of_le' (show 1 ≤ s.drawVideo.drawEnd by omega)
  obtain ⟨k, rfl⟩ := Nat.exists_eq_add_of_le hend
  have hsplit : s.drawVideo.drawEnd + k = m + (1 + k) := by omega
  have hlast := videoTicks_enterHblank (s := s.withVideo { s.drawVideo with lineCycle := m }) k hm.symm
    (s.drawVideo_ly.trans_lt hly) s.drawVideo_mode h455
  rw [hsplit, videoTicks_add, videoTicks_draw hly hlc hmode (by omega) (by omega) (by omega), hlast, ← hsplit]
  generalize s.drawVideo = d
  rw [enterMode, enterMode, requestStatIf_eq, requestStatIf_eq]
  rfl

end

/-- Settles O52: the scan, Draw and HBlank are the three stretches between the events of a line. -/
theorem modeFollowsTheLineCycle : Obligations.ModeFollowsTheLineCycle := by
  refine ⟨fun s c hly hend => videoTicks_idle c hend (by omega) (by omega), fun s c hly hlc hmode h455 hpenalty => ?_⟩
  intro v window drawEnd
  have hdrawEnd : s.drawVideo.drawEnd = drawEnd := s.drawVideo_drawEnd
  have h252 : 252 ≤ drawEnd := by omega
  by_cases h80 : c < 80
  · rw [videoTicks_scan hlc hmode h80, if_pos h80, if_neg (by omega)]
    exact ⟨hmode, rfl, rfl, by simp⟩
  by_cases hd : c < drawEnd
  · rw [videoTicks_draw hly hlc hmode (by omega) (hdrawEnd ▸ hd) h455, if_neg h80, if_pos hd, if_neg (by omega)]
    exact ⟨rfl, rfl, s.drawVideo_ly, by simp⟩
  · rw [videoTicks_hblank hly hlc hmode (by omega) (by omega) h455, if_neg h80, if_neg hd]
    refine ⟨rfl, rfl, s.drawVideo_ly, ?_⟩
    rw [enterMode, requestStatIf_eq]
    simp [v, show drawEnd ≤ c by omega]

end Sys2Proof.Machine
end

section
/-! SUPPORT. The ends of lines and the pictures (61_video.md R517 to R521, R531 to R533). -/

namespace Sys2Proof.Machine

variable {s : State} {v : Video}

theorem nextLine_eq (ly : Nat) : nextLine ly = if ly = 153 then 0 else ly + 1 := by simp [nextLine]

/-- Settles O53: the tick at cycle 455 is the end of the line. -/
theorem lineEndInterrupts : Obligations.LineEndInterrupts := by
  intro s h455 hly t ly hit stat
  have ht : t = lineEnd (s.withVideo { s.video with lineCycle := 456 }) := videoTick_lineEnd h455
  have hnext : nextLine s.video.ly = ly := nextLine_eq _
  have hvideo : t.video = { s.video with
      lineCycle := 0
      ly
      coinc := hit
      mode := if ly = 144 then .vblank else if ly < 144 then .oamScan else s.video.mode
      viewport := if ly = 144 then s.video.lines else s.video.viewport
      winLine := if ly = 144 then 0 else if s.video.winDrawn then s.video.winLine + 1 else s.video.winLine
      winYLatch := s.video.winYLatch && decide (ly ≠ 144)
      spriteBuf := []
      drawEnd := 252
      winDrawn := false } := by
    rw [ht, lineEnd_video, State.withVideo_video, hnext]
  have hif : t.bus.ifReg = (s.bus.ifReg ||| (if stat then 0b00010 else 0)) ||| (if ly = 144 then 0b00001 else 0) := by
    rw [ht, lineEnd_ifReg, State.withVideo_video, hnext]
    rfl
  rw [hvideo]
  exact ⟨rfl, rfl, rfl, hif, fun h => by simp [h, h.ne], fun h => if_pos h,
    fun h => by simp [h.ne', h.not_gt], rfl, rfl, rfl, rfl, rfl, rfl, rfl⟩

/-! ### The pictures -/

/-- Rendering writes the pixels of row LY alone. -/
theorem renderPixels_read_of_ne {n y x : Nat} (hn : n ≤ 160) (hx : x < 160) (hy : y ≠ v.ly) :
    Frame.read (renderPixels v n) y x = Frame.read v.lines y x := by
  induction n with
  | zero => rfl
  | succ n ih => exact (readCell_writeCell_ne (by omega)).trans (ih (by omega))

theorem enterDraw_lines (w : Nat) (v : Video) :
    (enterDraw w v).lines = renderPixels (windowYCheck { v with spriteBuf := oamScan v }) 160 := by
  rw [enterDraw, renderLine]

/-- The row of LY as Draw begins. -/
theorem enterDraw_row (w : Nat) {x : Nat} (hwf : Frame.wf v.lines) (hx : x < 160) :
    Frame.read (enterDraw w v).lines v.ly x =
      pixel { v with spriteBuf := oamScan v, winYLatch := v.winYLatch || decide (v.ly = v.wy.toNat) } x := by
  rw [enterDraw_lines, renderPixels_read (by rw [windowYCheck_lines]; exact hwf) 160 (Nat.le_refl 160) _ _ hx,
    if_pos ⟨(windowYCheck_ly { v with spriteBuf := oamScan v }).symm, hx⟩, windowYCheck_eq]

theorem enterDraw_viewport (w : Nat) (v : Video) : (enterDraw w v).viewport = v.viewport :=
  windowYCheck_viewport { v with spriteBuf := oamScan v }

theorem videoTick_viewport (h455 : s.video.lineCycle ≠ 455) : (videoTick s).video.viewport = s.video.viewport := by
  refine videoTick_cases (P := fun t => t.video.viewport = s.video.viewport) (fun h => absurd h h455) (fun _ _ _ => ?_)
    (fun _ => ?_) (fun _ => rfl)
  · exact enterDraw_viewport _ _
  · rw [enterMode_video, State.withVideo_video]

theorem videoTick_lines_of_ne {y x : Nat} (hx : x < 160) (hy : y ≠ s.video.ly) :
    Frame.read (videoTick s).video.lines y x = Frame.read s.video.lines y x := by
  refine videoTick_cases (P := fun t => Frame.read t.video.lines y x = Frame.read s.video.lines y x) (fun _ => ?_)
    (fun _ _ _ => ?_) (fun _ => ?_) (fun _ => rfl)
  · rw [lineEnd_video, State.withVideo_video]
  · rw [State.withVideo_video, enterDraw_lines, renderPixels_read_of_ne (Nat.le_refl 160) hx (by rw [windowYCheck_ly]; exact hy),
      windowYCheck_lines]
  · rw [enterMode_video, State.withVideo_video]

/-- Settles O54: the end of line 143 alone is the entry to line 144, and rendering writes row LY. -/
theorem viewportChangesAtVblankAlone : Obligations.ViewportChangesAtVblankAlone := by
  intro s y x hx
  refine ⟨?_, videoTick_lines_of_ne hx, fun hwf hly hmode h79 => ?_⟩
  · by_cases h455 : s.video.lineCycle = 455
    · have h143 : nextLine s.video.ly = 144 ↔ s.video.ly = 143 := by
        rw [nextLine_eq]
        split <;> omega
      rw [videoTick_lineEnd h455, lineEnd_video, State.withVideo_video]
      simp only [h143, h455, true_and]
    · rw [videoTick_viewport h455, if_neg fun h => h455 h.1]
  · rw [videoTick_enterDraw h79 hly hmode, State.withVideo_video]
    exact enterDraw_row (v := { s.video with lineCycle := 80 }) _ hwf hx

end Sys2Proof.Machine
end

section
/-! SUPPORT. The sprites of a line (61_video.md R514, R528). -/

namespace Sys2Proof.Machine

variable {v : Video} {s t x y : Sprite} {xs acc : List Sprite} {col : Nat}

/-- The priority of R528: the lower xPos, then the lower OAM index. -/
def Sprite.Before (s t : Sprite) : Prop := s.xPos < t.xPos ∨ (s.xPos = t.xPos ∧ s.index < t.index)

theorem Sprite.Before.xPos_le (h : s.Before t) : s.xPos ≤ t.xPos := by
  obtain h | ⟨h, -⟩ := h
  · exact h.le
  · exact h.le

/-! ### The stable sort -/

theorem insertSprite_eq_orderedInsert (x : Sprite) (xs : List Sprite) :
    insertSprite x xs = xs.orderedInsert (fun a b => a.xPos < b.xPos) x := by
  induction xs with
  | nil => rfl
  | cons y ys ih => rw [insertSprite, List.orderedInsert_cons, ih]

theorem insertSprite_perm (x : Sprite) (xs : List Sprite) : (insertSprite x xs).Perm (x :: xs) := by
  rw [insertSprite_eq_orderedInsert]
  exact List.perm_orderedInsert _ x xs

/-- A sprite inserted after every sprite of a lower OAM index stands in the order of priority. -/
theorem insertSprite_pairwise (hxs : xs.Pairwise Sprite.Before) (hindex : ∀ y ∈ xs, y.index < x.index) :
    (insertSprite x xs).Pairwise Sprite.Before := by
  induction xs with
  | nil => exact List.pairwise_singleton _ x
  | cons y ys ih =>
    obtain ⟨hy, hys⟩ := List.pairwise_cons.1 hxs
    obtain ⟨hyx, hysx⟩ := List.forall_mem_cons.1 hindex
    unfold insertSprite
    split
    · next hlt =>
      refine List.pairwise_cons.2 ⟨List.forall_mem_cons.2 ⟨Or.inl hlt, fun z hz => Or.inl ?_⟩, hxs⟩
      exact hlt.trans_le (hy z hz).xPos_le
    · next hle =>
      refine List.pairwise_cons.2 ⟨fun z hz => ?_, ih hys hysx⟩
      obtain rfl | hz := List.mem_cons.1 ((insertSprite_perm x ys).mem_iff.1 hz)
      · exact (lt_or_eq_of_le (not_lt.1 hle)).imp id fun h => ⟨h, hyx⟩
      · exact hy z hz

theorem foldl_insertSprite_perm (xs acc : List Sprite) :
    (xs.foldl (fun sorted x => insertSprite x sorted) acc).Perm (acc ++ xs) := by
  induction xs generalizing acc with
  | nil => rw [List.append_nil]; rfl
  | cons x xs ih => exact (ih _).trans (((insertSprite_perm x acc).append_right xs).trans List.perm_middle.symm)

theorem foldl_insertSprite_pairwise (hacc : acc.Pairwise Sprite.Before) (hxs : xs.Pairwise fun s t => s.index < t.index)
    (hindex : ∀ y ∈ acc, ∀ x ∈ xs, y.index < x.index) :
    (xs.foldl (fun sorted x => insertSprite x sorted) acc).Pairwise Sprite.Before := by
  induction xs generalizing acc with
  | nil => exact hacc
  | cons x xs ih =>
    obtain ⟨hx, hxs⟩ := List.pairwise_cons.1 hxs
    refine ih (insertSprite_pairwise hacc fun y hy => hindex y hy x List.mem_cons_self) hxs fun y hy z hz => ?_
    obtain rfl | hy := List.mem_cons.1 ((insertSprite_perm x acc).mem_iff.1 hy)
    · exact hx z hz
    · exact hindex y hy z (List.mem_cons_of_mem x hz)

theorem sortSprites_perm (xs : List Sprite) : (sortSprites xs).Perm xs := foldl_insertSprite_perm xs []

theorem sortSprites_pairwise (h : xs.Pairwise fun s t => s.index < t.index) : (sortSprites xs).Pairwise Sprite.Before :=
  foldl_insertSprite_pairwise List.Pairwise.nil h nofun

/-! ### The scan and the winning sprite -/

theorem spriteHeight_cast (v : Video) : (spriteHeight v : Int) = if v.lcdc.getLsbD 2 then 16 else 8 := by
  unfold spriteHeight lcdcBit
  split <;> rfl

theorem oamScan_pairwise (v : Video) : (oamScan v).Pairwise Sprite.Before := by
  have hall : ((List.range 40).map (oamSprite v)).Pairwise fun s t => s.index < t.index :=
    List.pairwise_map.2 List.pairwise_lt_range
  exact sortSprites_pairwise ((hall.filter _).sublist (List.take_sublist 10 _))

/-- The first of a list in the order of priority that satisfies a test has priority over every other that does. -/
theorem before_of_find? {p : Sprite → Bool} (hxs : xs.Pairwise Sprite.Before) (hs : xs.find? p = some s) (ht : t ∈ xs)
    (hp : p t = true) : t = s ∨ s.Before t := by
  obtain ⟨-, as, bs, rfl, hno⟩ := List.find?_eq_some_iff_append.1 hs
  obtain ht | ht := List.mem_append.1 ht
  · exact absurd hp (by simpa using hno t ht)
  · obtain rfl | ht := List.mem_cons.1 ht
    · exact Or.inl rfl
    · exact Or.inr ((List.pairwise_cons.1 (List.pairwise_append.1 hxs).2.1).1 t ht)

/-- A sprite's pixel counts where it covers the column and is not transparent there (R528). -/
def spriteShows (v : Video) (col : Nat) (s : Sprite) : Bool := spriteCovers s col && objIndex v s col != 0

theorem spriteShows_iff :
    spriteShows v col s = true ↔ (s.xPos ≤ (col : Int) ∧ (col : Int) < s.xPos + 8) ∧ objIndex v s col ≠ 0 := by
  simp [spriteShows, spriteCovers]

theorem spritePixel_eq_some {o : BitVec 2} : spritePixel v col = some (s, o) ↔
    v.lcdc.getLsbD 1 = true ∧ v.spriteBuf.find? (spriteShows v col) = some s ∧ o = objIndex v s col := by
  rw [spritePixel, lcdcBit]
  split
  · next h =>
    rw [Option.map_eq_some_iff]
    constructor
    · rintro ⟨_, hs, rfl, rfl⟩
      exact ⟨h, hs, rfl⟩
    · rintro ⟨-, hs, rfl⟩
      exact ⟨s, hs, rfl⟩
  · next h => exact ⟨nofun, fun hs => absurd hs.1 h⟩

theorem spritePixel_eq_none : spritePixel v col = none ↔
    v.lcdc.getLsbD 1 = false ∨ ∀ s ∈ v.spriteBuf, ¬ spriteShows v col s = true := by
  rw [spritePixel, lcdcBit]
  split
  · next h =>
    rw [Option.map_eq_none_iff, List.find?_eq_none, h]
    exact ⟨Or.inr, fun hs => hs.resolve_left nofun⟩
  · next h => exact ⟨fun _ => Or.inl (Bool.eq_false_iff.2 h), fun _ => rfl⟩

/-- Settles O55: the scan is a stable sort, and the pixel's sprite is the first that shows in it. -/
theorem spriteSelectionAndPriority : Obligations.SpriteSelectionAndPriority := by
  intro v x h fits before covers
  refine ⟨fun i => ⟨rfl, rfl, rfl, rfl, rfl⟩, ?_, oamScan_pairwise v, fun s o hpixel => ?_, ?_⟩
  · have hfits : fits = spriteSelected v := by
      funext s
      exact decide_eq_decide.2 (by rw [spriteHeight_cast])
    rw [hfits]
    exact sortSprites_perm _
  · obtain ⟨-, hs, ho⟩ := spritePixel_eq_some.1 hpixel
    obtain ⟨hcovers, hne⟩ := spriteShows_iff.1 (List.find?_some hs)
    exact ⟨List.mem_of_find?_eq_some hs, hcovers, ho, ho ▸ hne,
      fun t ht hc ht0 => before_of_find? (oamScan_pairwise v) hs ht (spriteShows_iff.2 ⟨hc, ht0⟩)⟩
  · rw [spritePixel_eq_none]
    simp only [spriteShows_iff]
    rfl

end Sys2Proof.Machine
end

section
/-! SUPPORT. The shade of a pixel, from the bytes of VRAM (61_video.md R522 to R530). -/

namespace Sys2Proof.Machine

variable {v : Video} {s : Sprite}

/-! ### The color index of a tile's pixel (R523) -/

/-- Bit `k` of a byte of VRAM. -/
def vramBit (v : Video) (i k : Nat) : Nat := (Memory.read v.vram i).toNat / 2 ^ k % 2

/-- The color index of a tile's pixel: a bit of each bitplane. -/
def tileColor (v : Video) (tile row col : Nat) : Nat :=
  2 * vramBit v (16 * tile + 2 * row + 1) (7 - col) + vramBit v (16 * tile + 2 * row) (7 - col)

theorem ofBool_append_toNat (a b : Bool) : (BitVec.ofBool a ++ BitVec.ofBool b).toNat = 2 * a.toNat + b.toNat := by
  cases a <;> cases b <;> rfl

theorem vramAt_add (v : Video) (i : Nat) : vramAt v (0x8000 + i) = Memory.read v.vram i := by
  rw [vramAt, Nat.add_sub_cancel_left]

theorem tilePixel_toNat (v : Video) (tile row col : Nat) :
    (tilePixel v (0x8000 + tile * 16) row col).toNat = tileColor v tile row col := by
  rw [tilePixel, ofBool_append_toNat, Nat.add_assoc 0x8000, Nat.add_assoc 0x8000, vramAt_add, vramAt_add, Nat.mul_comm tile]
  exact congrArg₂ (fun hi lo => 2 * hi + lo) (Nat.toNat_testBit _ _) (Nat.toNat_testBit _ _)

/-! ### The background and the window (R522, R524, R525) -/

/-- The signed method counts the tiles below 128 from 0x9000. -/
def mapTile (v : Video) (idx : Nat) : Nat := if v.lcdc.getLsbD 4 = false ∧ idx < 128 then 256 + idx else idx

theorem bgTileAddr_eq (v : Video) (idx : Byte) : bgTileAddr v idx = 0x8000 + mapTile v idx.toNat * 16 := by
  rw [bgTileAddr, lcdcBit, mapTile]
  cases v.lcdc.getLsbD 4
  · by_cases h : idx.toNat < 128
    · simp [h]
      omega
    · simp [h]
      omega
  · simp

theorem mapPixel_toNat (v : Video) (map x y : Nat) : (mapPixel v (0x8000 + map) x y).toNat =
    tileColor v (mapTile v (Memory.read v.vram (map + y / 8 * 32 + x / 8)).toNat) (y % 8) (x % 8) := by
  rw [mapPixel, bgTileAddr_eq, tilePixel_toNat, Nat.add_assoc, Nat.add_assoc, vramAt_add, Nat.add_assoc]

theorem mapBase_eq (high : Bool) : (if high then 0x9C00 else 0x9800) = 0x8000 + if high then 0x1C00 else 0x1800 := by
  cases high <;> rfl

/-! ### Sprites (R526, R527) -/

theorem tallTile_toNat (tile : Byte) : (tile &&& 0xFE).toNat = tile.toNat / 2 * 2 ∧
    ((tile &&& 0xFE) + 1).toNat = tile.toNat / 2 * 2 + 1 := by
  revert tile
  decide

/-- A sprite 16 rows tall is the tile of an even index over the next. -/
theorem objTileAddr_tall (tile : Byte) {row : Nat} (h : row < 16) :
    objTileAddr ((tile &&& 0xFE) + if 8 ≤ row then 1 else 0) = 0x8000 + (tile.toNat / 2 * 2 + row / 8) * 16 := by
  obtain ⟨htop, hbottom⟩ := tallTile_toNat tile
  rw [objTileAddr]
  split
  · rw [hbottom, show row / 8 = 1 by omega]
  · rw [show (tile &&& 0xFE) + 0 = tile &&& 0xFE from BitVec.add_zero _, htop, show row / 8 = 0 by omega, Nat.add_zero]

theorem objIndex_toNat {x down across : Nat} (hdown : (v.ly : Int) = s.yPos + down) (hrow : down < spriteHeight v)
    (hacross : (x : Int) = s.xPos + across) :
    let row := if s.attr.getLsbD 6 then spriteHeight v - 1 - down else down
    let col := if s.attr.getLsbD 5 then 7 - across else across
    (objIndex v s x).toNat =
      if v.lcdc.getLsbD 2 then tileColor v (s.tile.toNat / 2 * 2 + row / 8) (row % 8) col
      else tileColor v s.tile.toNat row col := by
  intro row col
  have hrow0 : ((v.ly : Int) - s.yPos).toNat = down := by omega
  have hcol0 : ((x : Int) - s.xPos).toNat = across := by omega
  have hshort : row < spriteHeight v := by
    show (if s.attr.getLsbD 6 then spriteHeight v - 1 - down else down) < spriteHeight v
    split <;> omega
  have hdef : objIndex v s x =
      if spriteHeight v = 16 then
        tilePixel v (objTileAddr ((s.tile &&& 0xFE) + if 8 ≤ row then 1 else 0)) (row % 8) col
      else tilePixel v (objTileAddr s.tile) row col := by
    rw [objIndex, hrow0, hcol0]
  cases h2 : v.lcdc.getLsbD 2
  · have h8 : spriteHeight v = 8 := by simp only [spriteHeight, lcdcBit, h2, Bool.false_eq_true, if_false]
    rw [hdef, if_neg (by omega), objTileAddr, tilePixel_toNat]
    rfl
  · have h16 : spriteHeight v = 16 := by simp only [spriteHeight, lcdcBit, h2, if_true]
    rw [hdef, if_pos h16, objTileAddr_tall _ (h16 ▸ hshort), tilePixel_toNat]
    rfl

/-! ### The shade (R529, R530) -/

theorem shadeOf_toNat (pal : Byte) (ci : BitVec 2) : (shadeOf pal ci).toNat = pal.toNat / 4 ^ ci.toNat % 4 := by
  rw [shadeOf, BitVec.extractLsb'_toNat, Nat.shiftRight_eq_div_pow, Nat.pow_mul]

section
variable {x : Nat} {o : BitVec 2}

theorem pixel_of_none (h : spritePixel v x = none) : pixel v x = (backPixel v x).2 := by rw [pixel, h]

theorem pixel_of_behind (h : spritePixel v x = some (s, o)) (hbehind : s.attr.getLsbD 7 = true ∧ (backPixel v x).1 ≠ 0) :
    pixel v x = (backPixel v x).2 := by
  rw [pixel, h]
  exact if_pos (by simpa using hbehind)

theorem pixel_of_front (h : spritePixel v x = some (s, o)) (hfront : ¬ (s.attr.getLsbD 7 = true ∧ (backPixel v x).1 ≠ 0)) :
    pixel v x = shadeOf (if s.attr.getLsbD 4 then v.obp1 else v.obp0) o := by
  rw [pixel, h]
  exact if_neg (by simpa using hfront)

theorem windowCovers_eq (h0 : v.lcdc.getLsbD 0 = true) : windowCovers v x =
    (v.winYLatch && v.lcdc.getLsbD 5 && decide (v.wx.toNat ≤ 166) && decide (v.wx.toNat ≤ x + 7)) := by
  rw [windowCovers, windowOnLine, lcdcBit, lcdcBit, h0, Bool.and_true]

/-- The back pixel: the window's where it covers `x`, the background's elsewhere, nothing where LCDC bit 0 is clear. -/
theorem backPixel_eq (v : Video) (x : Nat) :
    let window := v.winYLatch && v.lcdc.getLsbD 5 && decide (v.wx.toNat ≤ 166) && decide (v.wx.toNat ≤ x + 7)
    let b : BitVec 2 := if v.lcdc.getLsbD 0 then (if window then winIndex v x else bgIndex v x) else 0
    backPixel v x = (b, if v.lcdc.getLsbD 0 then shadeOf v.bgp b else 0) := by
  intro window b
  by_cases h0 : v.lcdc.getLsbD 0 = true
  · have hb : b = if window then winIndex v x else bgIndex v x := if_pos h0
    rw [backPixel, lcdcBit, if_pos h0, if_pos h0, windowCovers_eq h0, hb]
  · have hb : b = 0 := if_neg h0
    rw [backPixel, lcdcBit, if_neg h0, if_neg h0, hb]

end

/-- Settles O56: the color indexes by `tilePixel_toNat`, and the pixel by whether a sprite shows and stands before the back. -/
theorem pixelComposition : Obligations.PixelComposition := by
  intro v x vram bit color map
  refine ⟨?_, fun _ => ?_, fun s down across => ?_, ?_⟩
  · rw [bgIndex, lcdcBit, mapBase_eq, mapPixel_toNat]
    rfl
  · rw [winIndex, lcdcBit, mapBase_eq, mapPixel_toNat]
    rfl
  · intro h row col hdown hrow hacross _
    exact objIndex_toNat hdown hrow hacross
  · intro window b back
    have hindex : (backPixel v x).1 = b := congrArg Prod.fst (backPixel_eq v x)
    have hshade : (backPixel v x).2.toNat = back := by
      rw [backPixel_eq]
      show (if v.lcdc.getLsbD 0 then shadeOf v.bgp b else 0).toNat = if v.lcdc.getLsbD 0 then v.bgp.toNat / 4 ^ b.toNat % 4 else 0
      split
      · exact shadeOf_toNat v.bgp b
      · rfl
    refine ⟨fun hnone => ?_, fun s o hsome => ?_, fun h1 => spritePixel_eq_none.2 (Or.inl h1)⟩
    · rw [pixel_of_none hnone, hshade]
    · obtain ⟨-, hs, ho⟩ := spritePixel_eq_some.1 hsome
      obtain ⟨-, hne⟩ := spriteShows_iff.1 (List.find?_some hs)
      rw [← hindex]
      exact ⟨ho ▸ hne, ho, fun hbehind => by rw [pixel_of_behind hsome hbehind, hshade],
        fun hfront => by rw [pixel_of_front hsome hfront, shadeOf_toNat]⟩

end Sys2Proof.Machine
end
